-- ==== Sys2Proof/Word.lean ====
section
/-! DEFINITION. The word types of MCB: bytes, 16-bit halves, 32-bit register words and binary32 encodings. -/

namespace Sys2Proof

/-- A byte of a frame or of the serial line (R11). -/
abbrev Byte := BitVec 8

/-- A 16-bit field: telemetry FLAGS, a 16-bit checksum (R101, R104). -/
abbrev Half := BitVec 16

/-- A register word of the 32-bit register file (R20). -/
abbrev Word := BitVec 32

/-- The 32-bit encoding of an IEEE-754 binary32 value (R13). -/
abbrev F32 := BitVec 32

end Sys2Proof
end

