-- ==== Sys2Proof/Machine/Float.lean ====
section
/-! DEFINITION. The binary32 primitives of R14 and the clamp of R15. A finite value is an exact integer multiple of
2^-149; every operation is computed exactly on such integers and rounded once, to nearest with ties to even. -/

namespace Sys2Proof.Machine

open Sys2Proof

/-! ## Parts of an encoding (R13) -/

/-- The exponent field, bits 30:23. -/
def fExp (a : F32) : Nat := (a.extractLsb' 23 8).toNat

/-- The fraction field, bits 22:0. -/
def fFrac (a : F32) : Nat := (a.extractLsb' 0 23).toNat

/-- The sign bit. -/
def fSign (a : F32) : Bool := a.getLsbD 31

/-- `finite(a)`: the exponent field is not 255 (R14). -/
def finite (a : F32) : Bool := fExp a != 255

/-- `isnan(a)`: the exponent field is 255 and the fraction is nonzero (R14). -/
def isnan (a : F32) : Bool := fExp a == 255 && fFrac a != 0

/-- An infinity. -/
def isinf (a : F32) : Bool := fExp a == 255 && fFrac a == 0

/-- The magnitude of a finite value, in units of 2^-149: subnormals keep their fraction, normals gain the hidden bit
and their scale. -/
def fMag (a : F32) : Nat := if fExp a = 0 then fFrac a else (fFrac a + 2 ^ 23) * 2 ^ (fExp a - 1)

/-- A finite value in units of 2^-149. -/
def fVal (a : F32) : Int := if fSign a then -(fMag a : Int) else fMag a

/-- The encoding of a generated NaN. DESIGN CHOICE (log 11), safe: R167 catches every NaN before it is stored, so no
register ever holds it. -/
def qNaN : F32 := 0x7FC00000#32

/-- A sign and the 31 bits below it. -/
def fPack (neg : Bool) (m : Nat) : F32 := BitVec.ofNat 32 (if neg then m + 2 ^ 31 else m)

/-- The 31 bits of an infinity. -/
def infBits : Nat := 0x7F800000

/-- The magnitude bits of `num/den` units of 2^-149, rounded to nearest with ties to even, gradual underflow, and
overflow to infinity. `den` is positive. The 24 most significant bits of the quotient are kept; a carry out of them
moves into the exponent field by itself. -/
def roundBits (num den : Nat) : Nat :=
  let shift := (num / den).log2 + 1 - 24
  let unit := den * 2 ^ shift
  let m := num / unit
  let r := num % unit
  let up := decide (2 * r > unit) || (decide (2 * r = unit) && m % 2 == 1)
  min (shift * 2 ^ 23 + (if up then m + 1 else m)) infBits

/-- `num/den` units of 2^-149 with a sign, rounded to binary32. -/
def fRound (neg : Bool) (num den : Nat) : F32 := fPack neg (roundBits num den)

/-! ## The primitives (R14) -/

/-- `fneg(a)`: flip bit 31. -/
def fneg (a : F32) : F32 := a ^^^ 0x80000000#32

/-- `fabs(a)`: clear bit 31. -/
def fabs (a : F32) : F32 := a &&& 0x7FFFFFFF#32

/-- `fadd(a, b)`. An exact zero sum is +0 unless both operands are -0. -/
def fadd (a b : F32) : F32 :=
  if isnan a || isnan b then qNaN
  else if isinf a then (if isinf b && fSign a != fSign b then qNaN else a)
  else if isinf b then b
  else
    let v := fVal a + fVal b
    if v = 0 then fPack (fSign a && fSign b) 0 else fRound (decide (v < 0)) v.natAbs 1

/-- `fsub(a, b)`. -/
def fsub (a b : F32) : F32 := fadd a (fneg b)

/-- `fmul(a, b)`. -/
def fmul (a b : F32) : F32 :=
  let neg := fSign a != fSign b
  if isnan a || isnan b then qNaN
  else if isinf a || isinf b then
    (if (!isinf a && fMag a == 0) || (!isinf b && fMag b == 0) then qNaN else fPack neg infBits)
  else fRound neg (fMag a * fMag b) (2 ^ 149)

/-- `fdiv(a, b)`. -/
def fdiv (a b : F32) : F32 :=
  let neg := fSign a != fSign b
  if isnan a || isnan b then qNaN
  else if isinf a then (if isinf b then qNaN else fPack neg infBits)
  else if isinf b then fPack neg 0
  else if fMag b = 0 then (if fMag a = 0 then qNaN else fPack neg infBits)
  else fRound neg (fMag a * 2 ^ 149) (fMag b)

/-- `f32(n)`: an integer converted to binary32. -/
def f32OfInt (n : Int) : F32 := fRound (decide (n < 0)) (n.natAbs * 2 ^ 149) 1

/-- The order of encodings that are not NaN, infinities included; both zeros are 0. -/
def fKey (a : F32) : Int :=
  if fSign a then -((a.extractLsb' 0 31).toNat : Int) else (a.extractLsb' 0 31).toNat

/-- `a < b`, false when an operand is NaN. -/
def flt (a b : F32) : Bool := !isnan a && !isnan b && decide (fKey a < fKey b)

/-- `a > b`. -/
def fgt (a b : F32) : Bool := flt b a

/-- `a == b`, false when an operand is NaN; +0 equals -0. -/
def feq (a b : F32) : Bool := !isnan a && !isnan b && decide (fKey a = fKey b)

/-- `clamp(x, lo, hi)` (R15). -/
def fclamp (x lo hi : F32) : F32 := if flt x lo then lo else if fgt x hi then hi else x

/-! ## Constants -/

/-- +0.0 (R65). -/
def fZero : F32 := 0#32

/-- 1.0. -/
def fOne : F32 := 0x3F800000#32

/-- 1000.0, the divisor of R183. -/
def fThousand : F32 := 0x447A0000#32

/-- 60000.0, the divisor of R144. -/
def fSixtyThousand : F32 := 0x476A6000#32

end Sys2Proof.Machine
end

