-- ==== Sys2Proof/Machine/Bytes.lean ====
section
/-! DEFINITION. Fields of words (R10), and byte order (R11, R73, R202): words as bytes of the line and back. -/

namespace Sys2Proof.Machine

/-- A field of a word: `x` at the bit positions from `pos` up (R10). -/
def place (w : Nat) {n : Nat} (x : BitVec n) (pos : Nat) : BitVec w := x.setWidth w <<< pos

/-- A flag of a word: bit `pos` is `b` and the others are 0. -/
def flag (w : Nat) (b : Bool) (pos : Nat) : BitVec w := place w (BitVec.ofBool b) pos

/-- `be16(n)`: the high byte first (R11). -/
def be16 (h : Half) : List Byte := [h.extractLsb' 8 8, h.extractLsb' 0 8]

/-- `be32(w)`: the most significant byte first (R11). -/
def be32 (w : Word) : List Byte :=
  [w.extractLsb' 24 8, w.extractLsb' 16 8, w.extractLsb' 8 8, w.extractLsb' 0 8]

/-- `le16(n)`, the reverse of `be16` (R11). -/
def le16 (h : Half) : List Byte := (be16 h).reverse

/-- `le32(w)`, the reverse of `be32` (R11). -/
def le32 (w : Word) : List Byte := (be32 w).reverse

/-- `ser32(x)` (R202): big-endian, or little-endian when CFG.PAYLOAD_LE is set. -/
def ser32 (littleEndian : Bool) (w : Word) : List Byte := if littleEndian then le32 w else be32 w

/-- `ser16(h)` (R202). -/
def ser16 (littleEndian : Bool) (h : Half) : List Byte := if littleEndian then le16 h else be16 h

/-- The 16-bit word of two bytes, the first one most significant. -/
def joinBe16 (b0 b1 : Byte) : Half := place 16 b0 8 ||| place 16 b1 0

/-- The 32-bit word of four bytes, the first one most significant. -/
def joinBe32 (b0 b1 b2 b3 : Byte) : Word :=
  place 32 b0 24 ||| place 32 b1 16 ||| place 32 b2 8 ||| place 32 b3 0

/-- `get32(p, i)` (R108, R217): the f32 word at payload bytes i to i+3. -/
def get32 (littleEndian : Bool) (p : List Byte) (i : Nat) : Word :=
  let b := fun k => p.getD (i + k) 0#8
  if littleEndian then joinBe32 (b 3) (b 2) (b 1) (b 0) else joinBe32 (b 0) (b 1) (b 2) (b 3)

/-- `get16(p, i)` (R108, R217): the 16-bit word at payload bytes i and i+1. -/
def get16 (littleEndian : Bool) (p : List Byte) (i : Nat) : Half :=
  let b := fun k => p.getD (i + k) 0#8
  if littleEndian then joinBe16 (b 1) (b 0) else joinBe16 (b 0) (b 1)

end Sys2Proof.Machine
end

