-- ==== Sys2Proof/Config.lean ====
section
/-! DEFINITION. The parameters of R8 that the spec fixes, and the free values of the points it leaves open. -/

namespace Sys2Proof

/-- `P_ROLE` (R3): which end of the link this MCB is. It is fixed for the life of the block (R9). -/
inductive Role where
  | controller
  | host
  deriving DecidableEq, Repr, Inhabited

/-- What a tick does whose pins broke the input requirement of R147: count up, count down, or not count. -/
inductive TickDraw where
  | up
  | down
  | uncounted
  deriving DecidableEq, Repr, Inhabited

/-- The constant the ID register reads (R23). -/
def Config.idValue : Word := 0x4D430007#32

/-- `P_WIN_CAP`: samples an encoder window holds (R8). -/
def Config.winCap : Nat := 32

/-- `P_RXBUF`: bytes the decoder's receive buffer holds (R8); R212 keeps it from filling. -/
def Config.rxBufCap : Nat := 64

/-- `P_RXF`: frames the decoded-frame FIFO holds (R8). -/
def Config.rxFrameCap : Nat := 4

/-- `P_TXF`: bytes the transmit FIFO holds (R8). -/
def Config.txCap : Nat := 256

/-- `P_BAUD_DIV_RESET` (R8, R33). -/
def Config.baudDivReset : BitVec 16 := 868#16

/-- `P_ROLE` in `State.reset`. OPEN in R8. DESIGN CHOICE (log 1), unsafe: a claim about `State.reset` alone
speaks of a CONTROLLER. -/
def Config.resetRole : Role := .controller

/-- `P_MS_DIV` in `State.reset`. OPEN in R8. DESIGN CHOICE (log 2), unsafe: a claim about `State.reset` alone
may lean on the number. -/
def Config.resetMsDiv : Nat := 100000

/-- FREE VALUE (R147, R294, 93 item 6; log 9): what the n-th tick that broke the input requirement counts. Safe. -/
opaque Config.tickDraw : Nat → TickDraw

/-- FREE VALUE (R191; log 12): `conv(x, TOP)` for an `x` outside [0, 1], which R191 does not define. Safe. -/
opaque Config.compareOutside : F32 → BitVec 16 → BitVec 17

end Sys2Proof
end

