-- ==== Sys2Proof/Syntax.lean ====
section
/-! DEFINITION. The instructions of MCB: one constructor for each row of spec/opcode_table.json, the 14 command
words (R90, R91) and the 2 frames (R100, R102, R103). -/

namespace Sys2Proof

/-- The CHECKSUM field of a frame as it stands on the line: one byte, or two bytes with the high one first (R101). -/
inductive Checksum where
  | sum8 (b : Byte)
  | sum16 (w : Half)
  deriving DecidableEq, Repr

/-- The payload of a VEL_CMD frame (R102): each field's four bytes in line order, the first one most significant.
CFG.PAYLOAD_LE is not applied here; it is applied when the frame is popped (R217). -/
structure VelWire where
  linear : Word
  angular : Word
  deriving DecidableEq, Repr

/-- The payload of a TELEMETRY frame (R103), each field's bytes in line order, the first one most significant. -/
structure TlmWire where
  rpmLeft : Word
  rpmRight : Word
  battery : Word
  accelX : Word
  accelY : Word
  accelZ : Word
  gyroX : Word
  gyroY : Word
  gyroZ : Word
  echoLinear : Word
  echoAngular : Word
  flags : Half
  deriving DecidableEq, Repr

/-- The rows of spec/opcode_table.json. `ch` is the 4-bit CH field of a channel operation (R90). -/
inductive Instr where
  | nop
  | setTarget (ch : BitVec 4)
  | step (ch : BitVec 4)
  | brake (ch : BitVec 4)
  | pidReset (ch : BitVec 4)
  | pidCompute (ch : BitVec 4)
  | encUpdate (ch : BitVec 4)
  | encReset (ch : BitVec 4)
  | txCmdFrame
  | txTlmFrame
  | rxPop
  | codecReset
  | linkStep
  | softReset
  | velCmd (p : VelWire) (ck : Checksum)
  | telemetry (p : TlmWire) (ck : Checksum)
  deriving DecidableEq, Repr

end Sys2Proof
end

