-- ==== Sys2Proof/WellFormed.lean ====
section
/-! DEFINITION. Which instructions are well formed: a channel operation names channel 0 or 1 (R91, R92 item 4). -/

namespace Sys2Proof

/-- The CH field of a channel operation, if the instruction is one (R91). -/
def Instr.channelField : Instr → Option (BitVec 4)
  | .nop => none
  | .setTarget ch => some ch
  | .step ch => some ch
  | .brake ch => some ch
  | .pidReset ch => some ch
  | .pidCompute ch => some ch
  | .encUpdate ch => some ch
  | .encReset ch => some ch
  | .txCmdFrame => none
  | .txTlmFrame => none
  | .rxPop => none
  | .codecReset => none
  | .linkStep => none
  | .softReset => none
  | .velCmd _ _ => none
  | .telemetry _ _ => none

/-- A channel operation's CH is 0 or 1 (R91: "Channel operations take CH in {0, 1}"). A frame's checksum is not
part of this: the block receives frames with a wrong checksum and its decoder judges them (R209). -/
def Instr.wellFormed (i : Instr) : Bool :=
  match i.channelField with
  | some ch => ch.toNat < 2
  | none => true

end Sys2Proof
end

