-- ==== Sys2Proof/Decode.lean ====
section
/-! DEFINITION. Decoding of command words (R90-R93) and of frames (R100-R107), total and rejecting by name, and the
encoder written from the same tables. -/

namespace Sys2Proof

open Sys2Proof.Machine

/-- Why a command word is no instruction (R92). The error code it raises depends on the role for `badChannel`:
see `Machine.rejectKind`. -/
inductive CmdReject where
  /-- A bit of 31:12 is set (R92 item 1). -/
  | reservedBits
  /-- OP is not in R91's table (R92 item 2). -/
  | unknownOp
  /-- CH is out of range for this channel operation, or nonzero for this other operation (R92 item 4). -/
  | badChannel (i : Instr)
  deriving DecidableEq, Repr

/-- Why bytes do not begin with a frame of the table (R100, R105). -/
inductive FrameReject where
  /-- The bytes do not begin with START1 START2. -/
  | noStart
  /-- Fewer bytes than the header or the frame needs. -/
  | tooShort
  /-- MSG_ID is neither 0x01 nor 0x02 (R106). -/
  | unknownId
  /-- LEN is not the length of the MSG_ID's payload (R105). -/
  | badLength
  deriving DecidableEq, Repr

/-! ## Command words -/

/-- The word of OP and CH (R90): bits 31:12 zero, CH in bits 11:8, OP in bits 7:0. -/
def cmdWord (op : Byte) (ch : BitVec 4) : Word := place 32 ch 8 ||| place 32 op 0

/-- A channel operation: CH must be 0 or 1 (R92 item 4 with `N_CH` = 2). -/
def channelOp (f : BitVec 4 → Instr) (ch : BitVec 4) : Except CmdReject Instr :=
  if ch.toNat < 2 then .ok (f ch) else .error (.badChannel (f ch))

/-- Any other operation: CH must be 0 (R92 item 4). -/
def plainOp (i : Instr) (ch : BitVec 4) : Except CmdReject Instr :=
  if ch = 0#4 then .ok i else .error (.badChannel i)

/-- The operation map (R91). -/
def decodeOp (op : Byte) (ch : BitVec 4) : Except CmdReject Instr :=
  match op.toNat with
  | 0x00 => plainOp .nop ch
  | 0x01 => channelOp .setTarget ch
  | 0x02 => channelOp .step ch
  | 0x03 => channelOp .brake ch
  | 0x04 => channelOp .pidReset ch
  | 0x05 => channelOp .pidCompute ch
  | 0x06 => channelOp .encUpdate ch
  | 0x07 => channelOp .encReset ch
  | 0x10 => plainOp .txCmdFrame ch
  | 0x11 => plainOp .txTlmFrame ch
  | 0x12 => plainOp .rxPop ch
  | 0x13 => plainOp .codecReset ch
  | 0x20 => plainOp .linkStep ch
  | 0x7F => plainOp .softReset ch
  | _ => .error .unknownOp

/-- R92 items 1, 2 and 4 on a command word. Item 3 (the role) is checked by the meaning, in the order R92 gives:
a channel rejection carries its instruction, so that a wrong role is reported before a bad channel. -/
def decodeCmd (w : Word) : Except CmdReject Instr :=
  if w.extractLsb' 12 20 ≠ 0#20 then .error .reservedBits
  else decodeOp (w.extractLsb' 0 8) (w.extractLsb' 8 4)

/-! ## Frames -/

/-- The number of checksum bytes `CW` (R101). -/
inductive SumWidth where
  | one
  | two
  deriving DecidableEq, Repr

/-- `CW` as a number. -/
def SumWidth.bytes : SumWidth → Nat
  | .one => 1
  | .two => 2

/-- Take a 4-byte field off the front, first byte most significant. -/
def takeWord : List Byte → Option (Word × List Byte)
  | a :: b :: c :: d :: r => some (joinBe32 a b c d, r)
  | _ => none

/-- Take a 2-byte field off the front, first byte most significant. -/
def takeHalf : List Byte → Option (Half × List Byte)
  | a :: b :: r => some (joinBe16 a b, r)
  | _ => none

/-- Take the CHECKSUM field off the front (R100, R101). -/
def takeSum : SumWidth → List Byte → Option (Checksum × List Byte)
  | .one, b :: r => some (.sum8 b, r)
  | .two, a :: b :: r => some (.sum16 (joinBe16 a b), r)
  | _, _ => none

/-- The payload and checksum of a VEL_CMD frame (R102). -/
def takeVel (cw : SumWidth) (bs : List Byte) : Option (Instr × List Byte) := do
  let (v, bs) ← takeWord bs
  let (w, bs) ← takeWord bs
  let (ck, bs) ← takeSum cw bs
  return (.velCmd { linear := v, angular := w } ck, bs)

/-- The payload and checksum of a TELEMETRY frame (R103). -/
def takeTlm (cw : SumWidth) (bs : List Byte) : Option (Instr × List Byte) := do
  let (rl, bs) ← takeWord bs
  let (rr, bs) ← takeWord bs
  let (bt, bs) ← takeWord bs
  let (ax, bs) ← takeWord bs
  let (ay, bs) ← takeWord bs
  let (az, bs) ← takeWord bs
  let (gx, bs) ← takeWord bs
  let (gy, bs) ← takeWord bs
  let (gz, bs) ← takeWord bs
  let (ev, bs) ← takeWord bs
  let (ew, bs) ← takeWord bs
  let (fl, bs) ← takeHalf bs
  let (ck, bs) ← takeSum cw bs
  return (.telemetry
    { rpmLeft := rl, rpmRight := rr, battery := bt, accelX := ax, accelY := ay, accelZ := az,
      gyroX := gx, gyroY := gy, gyroZ := gz, echoLinear := ev, echoAngular := ew, flags := fl } ck, bs)

/-- The body after a header with this MSG_ID and LEN (R105, R106). -/
def decodeBody (cwCmd cwTlm : SumWidth) (id : Byte) (len : Half) (bs : List Byte) :
    Except FrameReject (Instr × List Byte) :=
  if id = 0x01#8 then
    if len = 8#16 then (takeVel cwCmd bs).elim (.error .tooShort) .ok else .error .badLength
  else if id = 0x02#8 then
    if len = 46#16 then (takeTlm cwTlm bs).elim (.error .tooShort) .ok else .error .badLength
  else .error .unknownId

/-- The frame at the front of the bytes, and the bytes after it. `cwCmd` and `cwTlm` are the checksum widths of the
two channels (R101). The checksum's value is not judged here: the receiving decoder does that (R209). -/
def decodeFrame (cwCmd cwTlm : SumWidth) : List Byte → Except FrameReject (Instr × List Byte)
  | s1 :: s2 :: id :: hi :: lo :: bs =>
    if s1 = 0xAA#8 ∧ s2 = 0x55#8 then decodeBody cwCmd cwTlm id (joinBe16 hi lo) bs else .error .noStart
  | _ => .error .tooShort

/-! ## The encoder -/

/-- What an instruction is encoded as: a word for CMD, or bytes for the line. -/
inductive Code where
  | command (w : Word)
  | frame (bytes : List Byte)
  deriving DecidableEq, Repr

/-- The bytes of a checksum field (R101). -/
def Checksum.encode : Checksum → List Byte
  | .sum8 b => [b]
  | .sum16 w => be16 w

/-- The number of bytes of a checksum field. -/
def Checksum.width : Checksum → SumWidth
  | .sum8 _ => .one
  | .sum16 _ => .two

/-- The payload bytes of a velocity command in line order (R102). -/
def VelWire.bytes (p : VelWire) : List Byte := be32 p.linear ++ be32 p.angular

/-- The payload bytes of a telemetry frame in line order (R103). -/
def TlmWire.bytes (p : TlmWire) : List Byte :=
  be32 p.rpmLeft ++ be32 p.rpmRight ++ be32 p.battery ++ be32 p.accelX ++ be32 p.accelY ++ be32 p.accelZ ++
  be32 p.gyroX ++ be32 p.gyroY ++ be32 p.gyroZ ++ be32 p.echoLinear ++ be32 p.echoAngular ++ be16 p.flags

/-- The frame of an MSG_ID, a LEN, a payload and a checksum field (R100). -/
def frameBytes (id : Byte) (len : Half) (payload sum : List Byte) : List Byte :=
  [0xAA#8, 0x55#8, id] ++ be16 len ++ payload ++ sum

/-- The bytes of a VEL_CMD frame (R100, R102). -/
def velFrameBytes (p : VelWire) (ck : Checksum) : List Byte := frameBytes 0x01#8 8#16 p.bytes ck.encode

/-- The bytes of a TELEMETRY frame (R100, R103). -/
def tlmFrameBytes (p : TlmWire) (ck : Checksum) : List Byte := frameBytes 0x02#8 46#16 p.bytes ck.encode

/-- The encoding of an instruction, from R91's operation map and R100's frame layout. -/
def encode : Instr → Code
  | .nop => .command (cmdWord 0x00#8 0#4)
  | .setTarget ch => .command (cmdWord 0x01#8 ch)
  | .step ch => .command (cmdWord 0x02#8 ch)
  | .brake ch => .command (cmdWord 0x03#8 ch)
  | .pidReset ch => .command (cmdWord 0x04#8 ch)
  | .pidCompute ch => .command (cmdWord 0x05#8 ch)
  | .encUpdate ch => .command (cmdWord 0x06#8 ch)
  | .encReset ch => .command (cmdWord 0x07#8 ch)
  | .txCmdFrame => .command (cmdWord 0x10#8 0#4)
  | .txTlmFrame => .command (cmdWord 0x11#8 0#4)
  | .rxPop => .command (cmdWord 0x12#8 0#4)
  | .codecReset => .command (cmdWord 0x13#8 0#4)
  | .linkStep => .command (cmdWord 0x20#8 0#4)
  | .softReset => .command (cmdWord 0x7F#8 0#4)
  | .velCmd p ck => .frame (velFrameBytes p ck)
  | .telemetry p ck => .frame (tlmFrameBytes p ck)

/-- Decoding of either kind of code; a frame must be the whole of its bytes. -/
def decode (cwCmd cwTlm : SumWidth) : Code → Option Instr
  | .command w => (decodeCmd w).toOption
  | .frame bs =>
    match decodeFrame cwCmd cwTlm bs with
    | .ok (i, []) => some i
    | .ok (_, _ :: _) => none
    | .error _ => none

/-! ## The table's numbering -/

/-- The bytes of a number of `n` bytes, the most significant first: R109 reads a frame row's `match` as the
big-endian integer of START1, START2, MSG_ID, LEN_HI, LEN_LO. -/
def tableBytes : Nat → Nat → List Byte
  | 0, _ => []
  | n + 1, w => BitVec.ofNat 8 (w >>> (8 * n)) :: tableBytes n w

/-- The bytes of a table word of a frame row: the row's bytes, then zeros for the payload and the checksum. -/
def tableFrame (nbits w : Nat) : List Byte := tableBytes (nbits / 8) w ++ List.replicate 48 0#8

/-- The instruction the decoder reads from a word numbered as spec/opcode_table.json numbers it: up to 32 bits a
command word, more bits a frame (R109; log 16). One-byte checksums, as CFG is after reset. -/
def decodeTableWord (nbits w : Nat) : Option Instr :=
  if nbits ≤ 32 then (decodeCmd (BitVec.ofNat 32 (w % 2 ^ nbits))).toOption
  else
    match decodeFrame .one .one (tableFrame nbits w) with
    | .ok (i, _) => some i
    | .error _ => none

end Sys2Proof
end

