-- ==== Sys2Proof/Machine/State.lean ====
section
/-! DEFINITION. The state of MCB (10_state.md R20-R62), every piece of it plain data, and the state after reset (R280, R282). -/

namespace Sys2Proof.Machine

open Sys2Proof

/-- A motor channel (R18): `c0` is the left wheel, `c1` the right one. -/
inductive Chan where
  | c0
  | c1
  deriving DecidableEq, Repr

/-- The agents in the order of one clock cycle (R80; log 4). `inputs` begins the cycle. -/
inductive Phase where
  | inputs
  | time
  | link
  | enc
  | rx
  | tx
  | pwm
  | bus
  | stale
  deriving DecidableEq, Repr

/-- The state of the link controller (R240). -/
inductive LinkState where
  | up
  | down
  deriving DecidableEq, Repr

/-- The state of the UART receiver (R234). -/
inductive RxState where
  | idle
  | busy
  | waitHigh
  deriving DecidableEq, Repr

/-- The levels of the input pins (R63). -/
structure Pins where
  rstN : Bool
  encA0 : Bool
  encB0 : Bool
  encA1 : Bool
  encB1 : Bool
  uartRx : Bool
  ioFault : Bool
  deriving DecidableEq, Repr

/-- One access of the bus master (R70): the byte offset, and for a write the byte enables and the word. -/
inductive BusAccess where
  | read (addr : Word)
  | write (addr : Word) (enables : BitVec 4) (value : Word)
  deriving DecidableEq, Repr

/-- What the environment does in one clock cycle: pin levels, at most one bus access, and bytes that arrive at the
byte level of R238 (the RXB directive of R95; log 6). -/
structure CycleIn where
  pins : Pins
  bus : Option BusAccess
  rxb : List Byte
  deriving DecidableEq, Repr

/-- One sample of an encoder window (R58): when it was taken, the ticks since the last one, and the ms since it. -/
structure Sample where
  ts : Word
  d : Int
  dt : Word
  deriving DecidableEq, Repr

/-- A validated frame of `rxq` (R60). -/
structure Frame where
  id : Byte
  payload : List Byte
  deriving DecidableEq, Repr

/-- The parameters of the block that R8 leaves OPEN and a rule reads; no step changes them (R9). -/
structure Params where
  /-- `P_ROLE`; CFG.ROLE reads it (R24). -/
  role : Role
  /-- `P_MS_DIV`: clock cycles per TIME_MS increment (R25). -/
  msDiv : Nat
  deriving DecidableEq, Repr

/-- The time base (R25). -/
structure Clock where
  /-- TIME_MS. -/
  timeMs : Word
  /-- Clock cycles begun since the last increment. -/
  msCnt : Nat
  /-- TIME_MS has incremented in this cycle (R242). The model's own field. -/
  msTick : Bool
  deriving DecidableEq, Repr

/-- The global control and command registers (R24-R31). -/
structure Ctl where
  /-- CFG[3:1]: PAYLOAD_LE, CSUM16_TLM, CSUM16_CMD (R24). -/
  cfg : BitVec 3
  /-- The sticky bits of STATUS at their positions; the live bits are computed at the read (R26). -/
  sticky : BitVec 20
  /-- IRQ_EN (R27). -/
  irqEn : BitVec 20
  /-- ERR_CODE.CODE (R28). -/
  errCode : BitVec 8
  /-- ERR_CODE.ECH (R28). -/
  errCh : BitVec 4
  arg0 : Word
  arg1 : Word
  arg2 : Word
  result : Word
  /-- PWM_TOP.TOP (R32). -/
  pwmTop : BitVec 16
  /-- BAUD_DIV.DIV (R33). -/
  baudDiv : BitVec 16
  deriving DecidableEq, Repr

/-- The link counters (R35). -/
structure Counters where
  rxOk : Word
  rxCsumErr : Word
  rxLenErr : Word
  rxIdErr : Word
  rxFerr : Word
  rxDiscard : Word
  txFrame : Word
  deriving DecidableEq, Repr

/-- The link controller (R36, R37, R43, R62). -/
structure Link where
  state : LinkState
  backoffMs : Word
  downSinceMs : Word
  sentSinceUp : Bool
  deriving DecidableEq, Repr

/-- The registers of the heartbeat sender (R38-R42), HOST. -/
structure Heartbeat where
  heartbeatMs : Word
  vmax : F32
  wmax : F32
  eps : F32
  cmdInV : F32
  cmdInW : F32
  lastSentV : F32
  lastSentW : F32
  lastSendMs : Word
  deriving DecidableEq, Repr

/-- The last popped velocity frame (R44), CONTROLLER. -/
structure VelLatch where
  v : F32
  w : F32
  seq : Word
  deriving DecidableEq, Repr

/-- The telemetry source registers (R45), CONTROLLER. -/
structure TlmSource where
  batt : F32
  ax : F32
  ay : F32
  az : F32
  gx : F32
  gy : F32
  gz : F32
  flags : Half
  deriving DecidableEq, Repr

/-- The last popped telemetry frame (R46), HOST. -/
structure TlmLatch where
  rpmL : F32
  rpmR : F32
  batt : F32
  ax : F32
  ay : F32
  az : F32
  gx : F32
  gy : F32
  gz : F32
  echoV : F32
  echoW : F32
  flags : Half
  seq : Word
  deriving DecidableEq, Repr

/-- The codec's queues (R60). -/
structure Codec where
  rxbuf : List Byte
  rxq : List Frame
  txq : List Byte
  deriving DecidableEq, Repr

/-- The UART transmitter (R61, R233) and its output pin. -/
structure UartTx where
  busy : Bool
  byte : Byte
  idx : Nat
  cnt : Nat
  div : Nat
  /-- The level of `uart_tx` (R63). -/
  pin : Bool
  deriving DecidableEq, Repr

/-- The UART receiver (R61, R234) and the two-stage synchroniser of its pin. -/
structure UartRx where
  state : RxState
  t : Nat
  div : Nat
  shift : Byte
  sync1 : Bool
  /-- `rx_s`, the second stage. -/
  sync2 : Bool
  deriving DecidableEq, Repr

/-- A motor channel's configuration (R48-R53). -/
structure ChanCfg where
  /-- MCFG[3:0]: I_GATE_EN, I_LIMIT_EN, ENC_POL, DIR_INV (R48). -/
  mcfg : BitVec 4
  kp : F32
  ki : F32
  kd : F32
  kff : F32
  ffOffset : F32
  slewMax : F32
  dutyMin : F32
  dutyMax : F32
  iLimit : F32
  iErrBound : F32
  minPeriodMs : Word
  tpr : Word
  windowMs : Word
  minIntervalMs : Word
  staleMult : Word
  deriving DecidableEq, Repr

/-- The control law's state and its MSTAT bits (R54, R56, R160). -/
structure Pid where
  integral : F32
  lastErr : F32
  lastOut : F32
  satMin : Bool
  satMax : Bool
  numFault : Bool
  deriving DecidableEq, Repr

/-- The encoder's state (R55, R58). `aOld1` and `aOld2` are the levels `a_sync` had one and two cycles ago, `bOld1` to
`bOld3` those `b_sync` had one, two and three cycles ago: the model's own, to recognise a broken input requirement
(log 9). -/
structure Enc where
  count : Word
  prev : Word
  win : List Sample
  rpm : F32
  lastUpdMs : Word
  lastEdgeMs : Word
  aSeen : Bool
  aSync1 : Bool
  aSync2 : Bool
  bSync1 : Bool
  bSync2 : Bool
  aOld1 : Bool
  aOld2 : Bool
  bOld1 : Bool
  bOld2 : Bool
  bOld3 : Bool
  deriving DecidableEq, Repr

/-- The motor loop and the actuator outputs (R54, R56, R57, R59). -/
structure Motor where
  target : F32
  dirNeg : Bool
  brake : Bool
  lastDtMs : Word
  lastStepMs : Word
  pwmCmp : BitVec 17
  pendDuty : F32
  pwmCnt : Nat
  /-- The level of `pwm[c]` (R63). -/
  pin : Bool
  deriving DecidableEq, Repr

/-- A motor channel (R47). -/
structure Channel where
  cfg : ChanCfg
  pid : Pid
  enc : Enc
  mot : Motor
  deriving DecidableEq, Repr

end Sys2Proof.Machine

namespace Sys2Proof.Machine

open Sys2Proof

/-- The whole state of one MCB. Units absent in the role (R4) are held at their reset values and never move. -/
structure State where
  par : Params
  clk : Clock
  ctl : Ctl
  cnt : Counters
  link : Link
  hb : Heartbeat
  vel : VelLatch
  tlm : TlmSource
  lat : TlmLatch
  codec : Codec
  utx : UartTx
  urx : UartRx
  ch0 : Channel
  ch1 : Channel
  /-- The input pins in this cycle. -/
  pins : Pins
  /-- The bus access of this cycle, until the phase `bus` performs it. The model's own field (log 5). -/
  bus : Option BusAccess
  /-- The byte-level received bytes of this cycle not yet delivered. The model's own field (log 6). -/
  rxb : List Byte
  /-- The inputs of the cycles to come; none listed means held pins and no access. The model's own field (log 5). -/
  env : List CycleIn
  /-- The word the last bus read returned to the master. The model's own field (log 13). -/
  rdata : Word
  /-- The agent that moves next. The model's own field (log 4). -/
  phase : Phase
  /-- The number of free values drawn. The model's own field (log 9). -/
  freeCtr : Nat
  deriving DecidableEq, Repr

/-- Why the block would stop. It never does: "No error, fault or event of MCB transfers control, halts the block,
or waits for software" (R260), so no constructor exists (log 22). -/
inductive Fault where
  deriving DecidableEq, Repr

/-- Why a step has no meaning. -/
inductive Refusal where
  /-- Raised by `exec` for an instruction the model does not model yet; no instruction is left so. Safe. -/
  | notModelled (mnemonic : String)
  deriving DecidableEq, Repr

/-- A channel's configuration after reset (R47, R48-R53, R65). -/
def ChanCfg.atReset : ChanCfg :=
  { mcfg := 0x4#4, kp := 0#32, ki := 0#32, kd := 0#32, kff := 0#32, ffOffset := 0#32, slewMax := 0#32,
    dutyMin := 0#32, dutyMax := 0#32, iLimit := 0#32, iErrBound := 0#32, minPeriodMs := 20#32, tpr := 1#32,
    windowMs := 200#32, minIntervalMs := 5#32, staleMult := 3#32 }

/-- The control law's state after reset (R160). -/
def Pid.atReset : Pid :=
  { integral := 0#32, lastErr := 0#32, lastOut := 0#32, satMin := false, satMax := false, numFault := false }

/-- An encoder after a reset at time `now` whose synchronisers hold the levels `a` and `b` (R58, R280, R282). -/
def Enc.atReset (now : Word) (a b : Bool) : Enc :=
  { count := 0#32, prev := 0#32, win := [], rpm := 0#32, lastUpdMs := now, lastEdgeMs := now, aSeen := a,
    aSync1 := a, aSync2 := a, bSync1 := b, bSync2 := b, aOld1 := a, aOld2 := a, bOld1 := b, bOld2 := b, bOld3 := b }

/-- A motor loop after a reset at time `now` (R54, R57, R59, R280). -/
def Motor.atReset (now : Word) : Motor :=
  { target := 0#32, dirNeg := false, brake := false, lastDtMs := 0#32, lastStepMs := now, pwmCmp := 0#17,
    pendDuty := 0#32, pwmCnt := 0, pin := false }

/-- A channel after a reset at time `now`. -/
def Channel.atReset (now : Word) (a b : Bool) : Channel :=
  { cfg := .atReset, pid := .atReset, enc := .atReset now a b, mot := .atReset now }

/-- The global registers after reset (R24-R33). -/
def Ctl.atReset : Ctl :=
  { cfg := 0#3, sticky := 0#20, irqEn := 0#20, errCode := 0#8, errCh := 0#4, arg0 := 0#32, arg1 := 0#32,
    arg2 := 0#32, result := 0#32, pwmTop := 0x0FFF#16, baudDiv := Config.baudDivReset }

/-- The link counters after reset (R35). -/
def Counters.atReset : Counters :=
  { rxOk := 0#32, rxCsumErr := 0#32, rxLenErr := 0#32, rxIdErr := 0#32, rxFerr := 0#32, rxDiscard := 0#32,
    txFrame := 0#32 }

/-- The link after a reset at time `now`: the attempt of R243 succeeds when `io_fault` is 0. -/
def Link.atReset (now : Word) (ioFault : Bool) : Link :=
  { state := if ioFault then .down else .up, backoffMs := 1000#32, downSinceMs := now, sentSinceUp := false }

/-- The heartbeat sender's registers after reset (R38-R42). -/
def Heartbeat.atReset : Heartbeat :=
  { heartbeatMs := 200#32, vmax := 0#32, wmax := 0#32, eps := 0#32, cmdInV := 0#32, cmdInW := 0#32,
    lastSentV := 0#32, lastSentW := 0#32, lastSendMs := 0#32 }

/-- The velocity latch after reset (R44). -/
def VelLatch.atReset : VelLatch := { v := 0#32, w := 0#32, seq := 0#32 }

/-- The telemetry source registers after reset (R45). -/
def TlmSource.atReset : TlmSource :=
  { batt := 0#32, ax := 0#32, ay := 0#32, az := 0#32, gx := 0#32, gy := 0#32, gz := 0#32, flags := 0#16 }

/-- The telemetry latch registers after reset (R46). -/
def TlmLatch.atReset : TlmLatch :=
  { rpmL := 0#32, rpmR := 0#32, batt := 0#32, ax := 0#32, ay := 0#32, az := 0#32, gx := 0#32, gy := 0#32,
    gz := 0#32, echoV := 0#32, echoW := 0#32, flags := 0#16, seq := 0#32 }

/-- The codec after reset (R60). -/
def Codec.atReset : Codec := { rxbuf := [], rxq := [], txq := [] }

/-- The UART transmitter after reset: idle, line high (R61, R280). The spec gives the working registers `tx_byte`,
`tx_idx`, `tx_cnt` and `tx_div` no reset value; they are 0. DESIGN CHOICE (log 25), unsafe. -/
def UartTx.atReset : UartTx := { busy := false, byte := 0#8, idx := 0, cnt := 0, div := 0, pin := true }

/-- The UART receiver after reset: WAIT_HIGH, its synchroniser at the pin level (R61, R243, C9). The spec gives the
working registers `rx_t`, `rx_div` and `rx_shift` no reset value; they are 0. DESIGN CHOICE (log 25), unsafe. -/
def UartRx.atReset (pin : Bool) : UartRx :=
  { state := .waitHigh, t := 0, div := 0, shift := 0#8, sync1 := pin, sync2 := pin }

/-- Power-on reset with the pins at these levels (R280): cycle 0 of the block, whose inputs are on the pins. -/
def State.powerOn (par : Params) (pins : Pins) : State :=
  { par := par
    clk := { timeMs := 0#32, msCnt := 0, msTick := false }
    ctl := .atReset
    cnt := .atReset
    link := .atReset 0#32 pins.ioFault
    hb := .atReset
    vel := .atReset
    tlm := .atReset
    lat := .atReset
    codec := .atReset
    utx := .atReset
    urx := .atReset pins.uartRx
    ch0 := .atReset 0#32 pins.encA0 pins.encB0
    ch1 := .atReset 0#32 pins.encA1 pins.encB1
    pins := pins
    bus := none
    rxb := []
    env := []
    rdata := 0#32
    phase := .time
    freeCtr := 0 }

/-- The pin levels of `State.reset`: encoders low, the serial line idle high, the transport in order, as
95_test_vectors.md starts. DESIGN CHOICE (log 7), unsafe for a claim about `State.reset` alone. -/
def Pins.quiet : Pins :=
  { rstN := true, encA0 := false, encB0 := false, encA1 := false, encB1 := false, uartRx := true, ioFault := false }

/-- The machine right after power-on reset (R280): a CONTROLLER (log 1) with the quiet pins (log 7). -/
def State.reset : State :=
  State.powerOn { role := Config.resetRole, msDiv := Config.resetMsDiv } Pins.quiet

end Sys2Proof.Machine
end

