-- ==== Sys2Proof/Machine/Ops.lean ====
section
/-! DEFINITION. The operations the meanings share: channels, time, the error report (R262) and its clearing (R265), and
the role and channel checks of a command (R92). -/

namespace Sys2Proof.Machine

open Sys2Proof

/-! ## Channels -/

/-- The channel a CH field names, if it is one (R91). -/
def Chan.ofField (ch : BitVec 4) : Option Chan :=
  match ch.toNat with
  | 0 => some .c0
  | 1 => some .c1
  | _ => none

/-- The number of a channel. -/
def Chan.index : Chan → Nat
  | .c0 => 0
  | .c1 => 1

/-- The channel as ERR_CODE.ECH holds it (R28). -/
def Chan.field : Chan → BitVec 4
  | .c0 => 0#4
  | .c1 => 1#4

/-- `CH[c]` (R16). -/
def State.ch (s : State) : Chan → Channel
  | .c0 => s.ch0
  | .c1 => s.ch1

/-- `CH[c] <- x`. -/
def State.setCh (s : State) (c : Chan) (x : Channel) : State :=
  match c with
  | .c0 => { s with ch0 := x }
  | .c1 => { s with ch1 := x }

/-- Update the control law of channel c. -/
def State.setPid (s : State) (c : Chan) (x : Pid) : State := s.setCh c { s.ch c with pid := x }

/-- Update the encoder of channel c. -/
def State.setEnc (s : State) (c : Chan) (x : Enc) : State := s.setCh c { s.ch c with enc := x }

/-- Update the motor loop of channel c. -/
def State.setMot (s : State) (c : Chan) (x : Motor) : State := s.setCh c { s.ch c with mot := x }

/-- `RESULT <- w` (R31). -/
def State.setResult (s : State) (w : Word) : State := { s with ctl := { s.ctl with result := w } }

/-! ## Time (R12) -/

/-- `now`: TIME_MS at this step. -/
def State.now (s : State) : Word := s.clk.timeMs

/-- `elapsed(t) = u32(now - t)`. -/
def State.elapsed (s : State) (t : Word) : Word := s.clk.timeMs - t

/-! ## CFG fields (R24) -/

/-- CFG.CSUM16_CMD, bit 1. -/
def State.csum16Cmd (s : State) : Bool := s.ctl.cfg.getLsbD 0

/-- CFG.CSUM16_TLM, bit 2. -/
def State.csum16Tlm (s : State) : Bool := s.ctl.cfg.getLsbD 1

/-- CFG.PAYLOAD_LE, bit 3. -/
def State.payloadLe (s : State) : Bool := s.ctl.cfg.getLsbD 2

/-! ## The error report: this block's exception (R260-R265) -/

/-- The conditions that `raise Error` reports (R261). -/
inductive ErrKind where
  | cmdReservedBits
  | cmdUnknownOp
  | cmdWrongRole
  | cmdBadChannel
  | argNonfinite
  | argRange
  | cfgReject
  | rxChecksum
  | rxLength
  | rxUnknownId
  | rxFraming
  | rxFifoOverflow
  | txFifoOverflow
  | linkIoFault
  | cmdInNonfinite
  | numFault (c : Chan)
  deriving DecidableEq, Repr

/-- The condition's code (R261). -/
def ErrKind.code : ErrKind → BitVec 8
  | .cmdReservedBits => 0x01#8
  | .cmdUnknownOp => 0x02#8
  | .cmdWrongRole => 0x03#8
  | .cmdBadChannel => 0x04#8
  | .argNonfinite => 0x05#8
  | .argRange => 0x06#8
  | .cfgReject => 0x07#8
  | .rxChecksum => 0x10#8
  | .rxLength => 0x11#8
  | .rxUnknownId => 0x12#8
  | .rxFraming => 0x13#8
  | .rxFifoOverflow => 0x14#8
  | .txFifoOverflow => 0x15#8
  | .linkIoFault => 0x16#8
  | .cmdInNonfinite => 0x17#8
  | .numFault _ => 0x20#8

/-- The condition's STATUS bit (R261). -/
def ErrKind.statusBit : ErrKind → Nat
  | .cmdReservedBits => 0
  | .cmdUnknownOp => 0
  | .cmdWrongRole => 0
  | .cmdBadChannel => 0
  | .argNonfinite => 1
  | .argRange => 1
  | .cfgReject => 2
  | .rxChecksum => 4
  | .rxLength => 5
  | .rxUnknownId => 6
  | .rxFraming => 7
  | .rxFifoOverflow => 8
  | .txFifoOverflow => 9
  | .linkIoFault => 10
  | .cmdInNonfinite => 18
  | .numFault c => 12 + c.index

/-- Set one sticky STATUS bit (R26). -/
def State.setSticky (s : State) (i : Nat) : State :=
  { s with ctl := { s.ctl with sticky := s.ctl.sticky ||| BitVec.ofNat 20 (2 ^ i) } }

/-- `raise Error(code, ch)` (R262): ERR_CODE takes the code and the channel, and the code's STATUS bit is set. Nothing
else changes; what is done about the condition is the caller's rule. -/
def raiseError (e : ErrKind) (ch : BitVec 4) (s : State) : State :=
  { s with ctl := { s.ctl with
      errCode := e.code
      errCh := ch
      sticky := s.ctl.sticky ||| BitVec.ofNat 20 (2 ^ e.statusBit) } }

/-- A write of STATUS clears the sticky bits written as 1 (R26, R265). -/
def clearSticky (v : Word) (s : State) : State :=
  { s with ctl := { s.ctl with sticky := s.ctl.sticky &&& ~~~(v.extractLsb' 0 20) } }

/-- A write of ERR_CODE clears it (R28, R265). -/
def clearErrCode (s : State) : State := { s with ctl := { s.ctl with errCode := 0#8, errCh := 0#4 } }

/-! ## Roles and channels of a command (R91, R92 items 3 and 4) -/

/-- The roles in which an operation is legal (R91). Frames arrive at either end; the decoder judges them (R210). -/
def legalIn : Instr → Role → Bool
  | .nop, _ => true
  | .setTarget _, r => r == .controller
  | .step _, r => r == .controller
  | .brake _, r => r == .controller
  | .pidReset _, r => r == .controller
  | .pidCompute _, r => r == .controller
  | .encUpdate _, r => r == .controller
  | .encReset _, r => r == .controller
  | .txCmdFrame, r => r == .host
  | .txTlmFrame, r => r == .controller
  | .rxPop, _ => true
  | .codecReset, _ => true
  | .linkStep, r => r == .host
  | .softReset, _ => true
  | .velCmd _ _, _ => true
  | .telemetry _ _, _ => true

/-- The error a rejected command word raises in a role: the first failing check of R92 (R263). -/
def rejectKind (r : Role) : CmdReject → ErrKind
  | .reservedBits => .cmdReservedBits
  | .unknownOp => .cmdUnknownOp
  | .badChannel i => if legalIn i r then .cmdBadChannel else .cmdWrongRole

/-- The role check of an operation (R92 item 3): in another role nothing happens but the error 0x03. -/
def inRole (r : Role) (s : State) (f : State) : State :=
  if s.par.role = r then f else raiseError .cmdWrongRole 0#4 s

/-- The role and channel checks of a channel operation (R92 items 3 and 4), all of which are CONTROLLER only. -/
def onChannel (ch : BitVec 4) (s : State) (f : Chan → State) : State :=
  inRole .controller s
    (match Chan.ofField ch with
     | some c => f c
     | none => raiseError .cmdBadChannel 0#4 s)

end Sys2Proof.Machine
end

