-- ==== Sys2Proof/Machine/Operands.lean ====
section
/-! DEFINITION. The operands of commands: ARG0 to ARG2 as raw words (R94) and the checks they share (R123). -/

namespace Sys2Proof.Machine

open Sys2Proof

/-- "ARGk must be finite" (R123): an operand with exponent field 255 makes the command raise 0x05 with the channel `ch`
and do nothing else. -/
def needFinite (a : F32) (ch : BitVec 4) (s : State) (f : State) : State :=
  if finite a then f else raiseError .argNonfinite ch s

/-- A range on a finite operand (R123): outside it the command raises 0x06 with the channel `ch` and does nothing else. -/
def needRange (ok : Bool) (ch : BitVec 4) (s : State) (f : State) : State :=
  if ok then f else raiseError .argRange ch s

end Sys2Proof.Machine
end

