-- ==== Sys2Proof/Machine/Flags.lean ====
section
/-! DEFINITION. The status flags and how each is computed: STATUS and its live bits (R26), MSTAT (R56), MCFG fields (R48),
the telemetry flags (R104, R205), the interrupt and the direction and brake pins (R266, R192). -/

namespace Sys2Proof.Machine

open Sys2Proof

/-! ## MCFG fields (R48) -/

/-- MCFG.DIR_INV. -/
def ChanCfg.dirInv (x : ChanCfg) : Bool := x.mcfg.getLsbD 0

/-- MCFG.ENC_POL. -/
def ChanCfg.encPol (x : ChanCfg) : Bool := x.mcfg.getLsbD 1

/-- MCFG.I_LIMIT_EN. -/
def ChanCfg.iLimitEn (x : ChanCfg) : Bool := x.mcfg.getLsbD 2

/-- MCFG.I_GATE_EN. -/
def ChanCfg.iGateEn (x : ChanCfg) : Bool := x.mcfg.getLsbD 3

/-! ## Channel conditions -/

/-- `stale(c)`: the edge age exceeds STALE_MULT times WINDOW_MS, the product exact (R149). -/
def State.stale (s : State) (c : Chan) : Bool :=
  decide ((s.elapsed (s.ch c).enc.lastEdgeMs).toNat > (s.ch c).cfg.staleMult.toNat * (s.ch c).cfg.windowMs.toNat)

/-- MSTAT.ACTIVE: TARGET is not zero (R56). -/
def Motor.active (m : Motor) : Bool := !feq m.target fZero

/-- `dir[c]` and MSTAT.DIR_OUT: DIR_NEG xor DIR_INV at all times (R192). -/
def State.dirPin (s : State) (c : Chan) : Bool := (s.ch c).mot.dirNeg != (s.ch c).cfg.dirInv

/-- `brake[c]` is MSTAT.BRAKE (R192). -/
def State.brakePin (s : State) (c : Chan) : Bool := (s.ch c).mot.brake

/-- MSTAT[7:0] of channel c (R56): DIR_NEG, DIR_OUT, BRAKE, ACTIVE, STALE, SAT_MIN, SAT_MAX, NUM_FAULT in bits 0 to 7. -/
def State.mstat (s : State) (c : Chan) : BitVec 8 :=
  let x := s.ch c
  flag 8 x.mot.dirNeg 0 ||| flag 8 (s.dirPin c) 1 ||| flag 8 x.mot.brake 2 ||| flag 8 x.mot.active 3 |||
  flag 8 (s.stale c) 4 ||| flag 8 x.pid.satMin 5 ||| flag 8 x.pid.satMax 6 ||| flag 8 x.pid.numFault 7

/-! ## STATUS (R26) -/

/-- RX_AVAIL: the decoded-frame FIFO is not empty. -/
def State.rxAvail (s : State) : Bool := !s.codec.rxq.isEmpty

/-- LINK_UP: the LINK state is up. -/
def State.linkUp (s : State) : Bool := s.link.state == .up

/-- TX_IDLE: transmit FIFO empty and transmitter idle (R233). -/
def State.txIdle (s : State) : Bool := s.codec.txq.isEmpty && !s.utx.busy

/-- The sticky bits of STATUS: all but 3, 11 and 19. -/
def stickyMask : BitVec 20 := 0x7F7F7#20

/-- The live bits at their positions 3, 11 and 19. -/
def State.liveBits (s : State) : BitVec 20 :=
  flag 20 s.rxAvail 3 ||| flag 20 s.linkUp 11 ||| flag 20 s.txIdle 19

/-- STATUS[19:0]: sticky bits as stored, live bits as the conditions are. -/
def State.status (s : State) : BitVec 20 := (s.ctl.sticky &&& stickyMask) ||| s.liveBits

/-- `irq`: the OR over STATUS[i] and IRQ_EN[i], live bits included (R266). -/
def State.irq (s : State) : Bool := (s.status &&& s.ctl.irqEn) != 0#20

/-! ## Telemetry flags (R104, R205) -/

/-- `tlm_flags()`: TLM_FLAGS[0], then stale, saturation and numeric fault of channels 0 and 1 in bits 1 to 6, then
TLM_FLAGS[15:7]. -/
def State.tlmFlags (s : State) : Half :=
  let sat := fun c => (s.ch c).pid.satMin || (s.ch c).pid.satMax
  flag 16 (s.tlm.flags.getLsbD 0) 0 |||
  flag 16 (s.stale .c0) 1 ||| flag 16 (s.stale .c1) 2 |||
  flag 16 (sat .c0) 3 ||| flag 16 (sat .c1) 4 |||
  flag 16 s.ch0.pid.numFault 5 ||| flag 16 s.ch1.pid.numFault 6 |||
  place 16 (s.tlm.flags.extractLsb' 7 9) 7

end Sys2Proof.Machine
end

