-- ==== Sys2Proof/Machine/Codec.lean ====
section
/-! DEFINITION. The frame codec (44_frame_codec.md): checksum and payloads, the transmit queue, the resynchronising
decoder, and the frame and codec instructions. -/

namespace Sys2Proof.Machine

open Sys2Proof

/-! ## Checksum and encoder (R200-R206) -/

/-- `CW = 1 + CFG.CSUM16_x` (R101). -/
def sumWidth (csum16 : Bool) : SumWidth := if csum16 then .two else .one

/-- `cw(id)`: the channel of MSG_ID 0x01 has CSUM16_CMD, that of 0x02 CSUM16_TLM (R101). -/
def State.cwOf (s : State) (id : Byte) : SumWidth :=
  sumWidth (if id = 0x01#8 then s.csum16Cmd else s.csum16Tlm)

/-- The sum of bytes as unsigned integers. -/
def byteSum (bs : List Byte) : Nat := (bs.map BitVec.toNat).sum

/-- `csum(id, L, p)` in `CW` bytes, the high byte first (R201). START1 and START2 are not summed. -/
def csum (cw : SumWidth) (id : Byte) (len : Half) (p : List Byte) : List Byte :=
  let s := byteSum ([id] ++ be16 len ++ p)
  match cw with
  | .one => [BitVec.ofNat 8 s]
  | .two => be16 (BitVec.ofNat 16 s)

/-- `encode(id, p)` (R200). -/
def State.encodeFrame (s : State) (id : Byte) (p : List Byte) : List Byte :=
  let len := BitVec.ofNat 16 p.length
  frameBytes id len p (csum (s.cwOf id) id len p)

/-- `vel_payload(v, w)` (R203). -/
def State.velPayload (s : State) (v w : F32) : List Byte := ser32 s.payloadLe v ++ ser32 s.payloadLe w

/-- `tlm_payload()` (R204): the values current at the command; no encoder sample is taken. -/
def State.tlmPayload (s : State) : List Byte :=
  let f := ser32 s.payloadLe
  f s.ch0.enc.rpm ++ f s.ch1.enc.rpm ++ f s.tlm.batt ++ f s.tlm.ax ++ f s.tlm.ay ++ f s.tlm.az ++
  f s.tlm.gx ++ f s.tlm.gy ++ f s.tlm.gz ++ f s.vel.v ++ f s.vel.w ++ ser16 s.payloadLe s.tlmFlags

/-- `enqueue(f)` returns 1 (R206): the link is up and the frame fits. -/
def State.canEnqueue (s : State) (f : List Byte) : Bool :=
  s.linkUp && decide (f.length ≤ Config.txCap - s.codec.txq.length)

/-- `enqueue(f)` (R206): dropped silently while the link is down, rejected whole with 0x15 when it does not fit. -/
def enqueue (f : List Byte) (s : State) : State :=
  if s.link.state = .down then s
  else if f.length > Config.txCap - s.codec.txq.length then raiseError .txFifoOverflow 0#4 s
  else { s with
    codec := { s.codec with txq := s.codec.txq ++ f }
    cnt := { s.cnt with txFrame := s.cnt.txFrame + 1#32 } }

/-- The word 1 or 0 that a command reports. -/
def boolWord (b : Bool) : Word := if b then 1#32 else 0#32

/-! ## The decoder (R208-R212) -/

/-- `RXID`, the MSG_ID the role receives (R105). -/
def rxId : Role → Byte
  | .controller => 0x01#8
  | .host => 0x02#8

/-- `RXLEN`, its payload length (R105). -/
def rxLen : Role → Nat
  | .controller => 8
  | .host => 46

/-- `RXCW`, the checksum width of the channel the role receives. -/
def State.rxCw (s : State) : SumWidth := s.cwOf (rxId s.par.role)

/-- The least i with `rxbuf[i] = 0xAA` and `rxbuf[i+1] = 0x55`. -/
def findStart : List Byte → Option Nat
  | [] => none
  | a :: r =>
    if a = 0xAA#8 ∧ r.head? = some 0x55#8 then some 0
    else (findStart r).map (· + 1)

/-- `drop(k)` (R209): remove k bytes from the front of `rxbuf` and count them as discarded. -/
def discard (k : Nat) (s : State) : State :=
  { s with
    codec := { s.codec with rxbuf := s.codec.rxbuf.drop k }
    cnt := { s.cnt with rxDiscard := s.cnt.rxDiscard + BitVec.ofNat 32 k } }

/-- What the scanner found at a start pair (R209 parts 2 and 3, R210). -/
inductive ScanVerdict where
  /-- Fewer bytes than the header or the frame: wait without discarding. -/
  | wait
  /-- The MSG_ID is not RXID. -/
  | unknownId
  /-- The LEN is not RXLEN. -/
  | badLength
  /-- The checksum does not match. -/
  | badSum
  /-- A valid frame of n bytes with this payload. -/
  | valid (id : Byte) (payload : List Byte) (n : Nat)
  deriving DecidableEq, Repr

/-- Judge a buffer that begins with a start pair (R209 parts 2 and 3). -/
def judge (role : Role) (cw : SumWidth) (buf : List Byte) : ScanVerdict :=
  match buf with
  | _ :: _ :: id :: hi :: lo :: body =>
    let len := (joinBe16 hi lo).toNat
    if id ≠ rxId role then .unknownId
    else if len ≠ rxLen role then .badLength
    else if body.length < len + cw.bytes then .wait
    else
      let payload := body.take len
      if (body.drop len).take cw.bytes ≠ csum cw id (joinBe16 hi lo) payload then .badSum
      else .valid id payload (5 + len + cw.bytes)
  | _ => .wait

/-- `accept(id, p)` (R211): count the frame, and queue it or, when `rxq` is full, drop it with 0x14. -/
def acceptFrame (f : Frame) (s : State) : State :=
  let s := { s with cnt := { s.cnt with rxOk := s.cnt.rxOk + 1#32 } }
  if s.codec.rxq.length = Config.rxFrameCap then raiseError .rxFifoOverflow 0#4 s
  else { s with codec := { s.codec with rxq := s.codec.rxq ++ [f] } }

/-- `hdr_reject(0x12)` (R209). -/
def rejectId (s : State) : State :=
  let s := raiseError .rxUnknownId 0#4 s
  discard 1 { s with cnt := { s.cnt with rxIdErr := s.cnt.rxIdErr + 1#32 } }

/-- `hdr_reject(0x11)` (R209). -/
def rejectLength (s : State) : State :=
  let s := raiseError .rxLength 0#4 s
  discard 1 { s with cnt := { s.cnt with rxLenErr := s.cnt.rxLenErr + 1#32 } }

/-- A checksum mismatch (R209 part 3): report, count, drop one byte. -/
def rejectSum (s : State) : State :=
  let s := raiseError .rxChecksum 0#4 s
  discard 1 { s with cnt := { s.cnt with rxCsumErr := s.cnt.rxCsumErr + 1#32 } }

/-- Remove the n bytes of an accepted frame, not counted as discarded (R209). -/
def consume (n : Nat) (s : State) : State :=
  { s with codec := { s.codec with rxbuf := s.codec.rxbuf.drop n } }

/-- How many bytes the start search drops (R209 part 1): those before the start pair, or without one all but a
trailing 0xAA. -/
def searchDrop (buf : List Byte) : Nat :=
  match findStart buf with
  | some i => i
  | none => if buf.getLast? = some 0xAA#8 then buf.length - 1 else buf.length

/-- One iteration of `decode()`'s loop (R209), and whether the loop continues. -/
def scanIter (s : State) : State × Bool :=
  let t := discard (searchDrop s.codec.rxbuf) s
  if (findStart s.codec.rxbuf).isNone then (t, false)
  else
    match judge t.par.role t.rxCw t.codec.rxbuf with
    | .wait => (t, false)
    | .unknownId => (rejectId t, true)
    | .badLength => (rejectLength t, true)
    | .badSum => (rejectSum t, true)
    | .valid id payload n => (consume n (acceptFrame { id := id, payload := payload } t), true)

/-- The loop of `decode()` with a bound on its iterations. -/
def scanLoop : Nat → State → State
  | 0, s => s
  | n + 1, s => if (scanIter s).2 then scanLoop n (scanIter s).1 else (scanIter s).1

/-- `decode()` (R209). Every iteration that continues removes at least one byte, so the bound is never reached. -/
def decodeRx (s : State) : State := scanLoop (s.codec.rxbuf.length + 1) s

/-- Byte arrival (R208): while the link is up the byte is appended and the decoder runs to its fixpoint; while it is
down the byte is ignored (R244). -/
def deliver (b : Byte) (s : State) : State :=
  if s.link.state = .up then decodeRx { s with codec := { s.codec with rxbuf := s.codec.rxbuf ++ [b] } } else s

/-- Bytes that arrive one after the other. -/
def deliverAll : List Byte → State → State
  | [], s => s
  | b :: bs, s => deliverAll bs (deliver b s)

/-! ## Popping (R215, R217) -/

/-- `store_frame(p)` (R217), with CFG.PAYLOAD_LE at the pop. -/
def storeFrame (p : List Byte) (s : State) : State :=
  let g := get32 s.payloadLe p
  match s.par.role with
  | .controller => { s with vel := { v := g 0, w := g 4, seq := s.vel.seq + 1#32 } }
  | .host => { s with lat :=
      { rpmL := g 0, rpmR := g 4, batt := g 8, ax := g 12, ay := g 16, az := g 20, gx := g 24, gy := g 28,
        gz := g 32, echoV := g 36, echoW := g 40, flags := get16 s.payloadLe p 44, seq := s.lat.seq + 1#32 } }

/-- Pop the head of `rxq`, if any, and store it; RX_POP and LINK_STEP share it (R215, R248). -/
def popFrame (s : State) : State :=
  match s.codec.rxq with
  | [] => s
  | f :: q => storeFrame f.payload { s with codec := { s.codec with rxq := q } }

/-! ## Meanings -/

/-- TX_CMD_FRAME (R207). -/
def execTxCmdFrame (s : State) : Host.Outcome State Fault Refusal :=
  .next (inRole .host s
    (needFinite s.ctl.arg0 0#4 s
      (needFinite s.ctl.arg1 0#4 s
        (let f := s.encodeFrame 0x01#8 (s.velPayload s.ctl.arg0 s.ctl.arg1)
         (enqueue f s).setResult (boolWord (s.canEnqueue f))))))

/-- TX_TLM_FRAME (R214). -/
def execTxTlmFrame (s : State) : Host.Outcome State Fault Refusal :=
  .next (inRole .controller s
    (let f := s.encodeFrame 0x02#8 s.tlmPayload
     (enqueue f s).setResult (boolWord (s.canEnqueue f))))

/-- RX_POP (R215). -/
def execRxPop (s : State) : Host.Outcome State Fault Refusal :=
  .next ((popFrame s).setResult (boolWord s.rxAvail))

/-- CODEC_RESET (R216). -/
def execCodecReset (s : State) : Host.Outcome State Fault Refusal :=
  .next { s with codec := .atReset }

/-- A VEL_CMD frame arrives (R100, R102): its bytes are delivered to the decoder one by one, which accepts it at
CONTROLLER with a right checksum and rejects it otherwise (R209-R211; log 16). -/
def execVelCmd (p : VelWire) (ck : Checksum) (s : State) : Host.Outcome State Fault Refusal :=
  .next (deliverAll (velFrameBytes p ck) s)

/-- A TELEMETRY frame arrives (R100, R103), accepted at HOST with a right checksum and rejected otherwise (log 16). -/
def execTelemetry (p : TlmWire) (ck : Checksum) (s : State) : Host.Outcome State Fault Refusal :=
  .next (deliverAll (tlmFrameBytes p ck) s)

end Sys2Proof.Machine
end

