-- ==== Sys2Proof/Machine/Uart.lean ====
section
/-! DEFINITION. The baud-rate generator and the UART (45_uart_link.md section 1): transmitter and receiver, one clock
cycle at a time. -/

namespace Sys2Proof.Machine

open Sys2Proof

/-- `DIV`: clock cycles per bit (R230). -/
def State.baud (s : State) : Nat := s.ctl.baudDiv.toNat

/-! ## Transmitter (R231-R233) -/

/-- `bitval(idx)`: the start bit, the data bits least significant first, the stop bit (R231-R233). -/
def txBit (b : Byte) (idx : Nat) : Bool :=
  if idx = 0 then false else if idx ≤ 8 then b.getLsbD (idx - 1) else true

/-- The transmitter takes the next byte of `txq` when it is idle and the link is up, with a copy of DIV (R233, R237). -/
def txLoad (s : State) : State :=
  match s.codec.txq with
  | [] => s
  | b :: q =>
    if !s.utx.busy && s.linkUp then
      { s with
        codec := { s.codec with txq := q }
        utx := { s.utx with busy := true, byte := b, idx := 0, cnt := 0, div := s.baud } }
    else s

/-- One cycle of the shifter (R233). -/
def txShift (u : UartTx) : UartTx :=
  if u.busy then
    let u := { u with pin := txBit u.byte u.idx, cnt := u.cnt + 1 }
    if u.cnt = u.div then { u with cnt := 0, idx := u.idx + 1, busy := decide (u.idx + 1 ≠ 10) } else u
  else { u with pin := true }

/-- The transmitter in one clock cycle (R233). -/
def txCycle (s : State) : State :=
  let t := txLoad s
  { t with utx := txShift t.utx }

/-! ## Receiver (R234-R236) -/

/-- The bit k in 0..9 with `rx_t = k * rx_div + floor(rx_div / 2)`, if any (R234). -/
def sampleBit (t div : Nat) : Option Nat := (List.range 10).find? fun k => t == k * div + div / 2

/-- `rx_shift[k-1] <- rx_s` (R234). -/
def putBit (b : Byte) (i : Nat) (v : Bool) : Byte :=
  if v then b ||| BitVec.ofNat 8 (2 ^ i) else b &&& ~~~(BitVec.ofNat 8 (2 ^ i))

/-- A framing error (R235): the byte is discarded, 0x13 is raised and counted. -/
def framingError (s : State) : State :=
  let s := raiseError .rxFraming 0#4 s
  { s with cnt := { s.cnt with rxFerr := s.cnt.rxFerr + 1#32 } }

/-- The receiver's registers after a BUSY cycle that samples bit `k`, if any (R234): the state it goes to, the shift
register, and the next `rx_t`. -/
def rxBusyNext (k : Option Nat) (u : UartRx) : UartRx :=
  let u := { u with t := u.t + 1 }
  match k with
  | none => u
  | some 0 => if u.sync2 then { u with state := .idle } else u
  | some 9 => { u with state := if u.sync2 then .idle else .waitHigh }
  | some (k + 1) => { u with shift := putBit u.shift k u.sync2 }

/-- A BUSY cycle of the receiver (R234). The stop-bit sample delivers the byte or reports a framing error. -/
def rxBusy (s : State) : State :=
  let k := sampleBit s.urx.t s.urx.div
  let t := { s with urx := rxBusyNext k s.urx }
  if k = some 9 then (if s.urx.sync2 then deliver s.urx.shift t else framingError t) else t

/-- The receiver in one clock cycle, held while the link is down (R234, R244). -/
def rxCycle (s : State) : State :=
  if s.link.state = .down then s
  else
    match s.urx.state with
    | .idle =>
      if s.urx.sync2 then s else { s with urx := { s.urx with state := .busy, t := 1, div := s.baud } }
    | .busy => rxBusy s
    | .waitHigh => if s.urx.sync2 then { s with urx := { s.urx with state := .idle } } else s

/-- The synchroniser of `uart_rx` shifts at a clock edge (R234; log 10). -/
def shiftUart (pin : Bool) (u : UartRx) : UartRx := { u with sync1 := pin, sync2 := u.sync1 }

end Sys2Proof.Machine
end

