-- ==== Sys2Proof/Machine/LinkCtl.lean ====
section
/-! DEFINITION. The link controller (45_uart_link.md sections 2 and 3): down, reconnect with backoff, and LINK_STEP. -/

namespace Sys2Proof.Machine

open Sys2Proof

/-! ## Up and down (R240-R242) -/

/-- `go_down()` (R241): both byte paths are flushed, 0x16 is raised. -/
def goDown (s : State) : State :=
  raiseError .linkIoFault 0#4
    { s with
      link := { s.link with state := .down, downSinceMs := s.now }
      codec := .atReset
      utx := { s.utx with busy := false, pin := true }
      urx := { s.urx with state := .idle } }

/-- `attempt()` (R242). -/
def attempt (s : State) : State :=
  if s.pins.ioFault then { s with link := { s.link with downSinceMs := s.now } }
  else
    { s with
      link := { s.link with state := .up, sentSinceUp := false }
      urx := { s.urx with state := .waitHigh } }

/-- A reconnect attempt is due (R242): down, TIME_MS has just incremented, and the backoff has passed. -/
def State.attemptDue (s : State) : Bool :=
  s.link.state == .down && s.clk.msTick &&
  decide (s.link.backoffMs.toNat ≤ (s.elapsed s.link.downSinceMs).toNat)

/-- The link controller in one clock cycle (R80 item 2): the down transition, then an attempt if one is due. -/
def linkCycle (s : State) : State :=
  let s := if s.linkUp && s.pins.ioFault then goDown s else s
  if s.attemptDue then attempt s else s

/-! ## LINK_STEP (R245-R249) -/

/-- A CMD_IN value made finite (R247). -/
def sanitize (x : F32) : F32 := if finite x then x else fZero

/-- `v` of R245: CMD_IN_V made finite and clamped to VMAX. -/
def State.sendV (s : State) : F32 := fclamp (sanitize s.hb.cmdInV) (fneg s.hb.vmax) s.hb.vmax

/-- `w` of R245: CMD_IN_W made finite and clamped to WMAX. -/
def State.sendW (s : State) : F32 := fclamp (sanitize s.hb.cmdInW) (fneg s.hb.wmax) s.hb.wmax

/-- `bad` of R245: a CMD_IN value is not finite. -/
def State.cmdInBad (s : State) : Bool := !finite s.hb.cmdInV || !finite s.hb.cmdInW

/-- `send_due(v, w)` (R246). -/
def State.sendDue (s : State) (v w : F32) : Bool :=
  !s.link.sentSinceUp ||
  fgt (fabs (fsub v s.hb.lastSentV)) s.hb.eps || fgt (fabs (fsub w s.hb.lastSentW)) s.hb.eps ||
  decide (s.hb.heartbeatMs.toNat ≤ (s.elapsed s.hb.lastSendMs).toNat)

/-- The velocity frame LINK_STEP sends (R245). -/
def State.heartbeatFrame (s : State) : List Byte := s.encodeFrame 0x01#8 (s.velPayload s.sendV s.sendW)

/-- LINK_STEP tries to send (R245). -/
def State.triesSend (s : State) : Bool := s.linkUp && s.sendDue s.sendV s.sendW

/-- `sent` of R245: it tries, and the frame is enqueued. -/
def State.sends (s : State) : Bool := s.triesSend && s.canEnqueue s.heartbeatFrame

/-- The first part of LINK_STEP: report non-finite inputs (R247). -/
def reportBadInput (s : State) : State := if s.cmdInBad then raiseError .cmdInNonfinite 0#4 s else s

/-- The heartbeat state after a frame was enqueued (R245). -/
def recordSent (v w : F32) (s : State) : State :=
  { s with
    hb := { s.hb with lastSentV := v, lastSentW := w, lastSendMs := s.now }
    link := { s.link with sentSinceUp := true } }

/-- The send part of LINK_STEP (R245, R246). A frame that did not fit leaves the heartbeat state unchanged. -/
def heartbeat (s : State) : State :=
  if s.triesSend then
    let t := enqueue s.heartbeatFrame s
    if s.sends then recordSent s.sendV s.sendW t else t
  else s

/-- LINK_STEP's RESULT (R249): bit 0 sent, bit 1 popped. -/
def linkResult (sent popped : Bool) : Word := flag 32 sent 0 ||| flag 32 popped 1

/-- The effect of LINK_STEP (R245): report, send, pop at most one frame (R248), RESULT. -/
def linkStep (s : State) : State :=
  (popFrame (heartbeat (reportBadInput s))).setResult (linkResult s.sends s.rxAvail)

/-- LINK_STEP (R245). -/
def execLinkStep (s : State) : Host.Outcome State Fault Refusal := .next (inRole .host s (linkStep s))

end Sys2Proof.Machine
end

