-- ==== Sys2Proof/Machine/Encoder.lean ====
section
/-! DEFINITION. The quadrature encoder and the windowed RPM smoother (41_encoder.md): edges, ENC_UPDATE and ENC_RESET. -/

namespace Sys2Proof.Machine

open Sys2Proof

/-! ## Edges (R141, R147) -/

/-- The two levels an encoder's pins have in this cycle. -/
def Pins.encA (p : Pins) : Chan → Bool
  | .c0 => p.encA0
  | .c1 => p.encA1

/-- The B level of channel c's pins. -/
def Pins.encB (p : Pins) : Chan → Bool
  | .c0 => p.encB0
  | .c1 => p.encB1

/-- The synchronisers shift at a clock edge: `a` and `b` are the pin levels of the cycle that ends (R147; log 10). -/
def shiftEnc (a b : Bool) (e : Enc) : Enc :=
  { e with
    aSync1 := a, aSync2 := e.aSync1, bSync1 := b, bSync2 := e.bSync1
    aOld1 := e.aSync2, aOld2 := e.aOld1, bOld1 := e.bSync2, bOld2 := e.bOld1, bOld3 := e.bOld2 }

/-- An edge of A whose pins broke R147's input requirement (log 9): the level before it or the level after it lasted
less than 2 cycles, or B changed in the 2 cycles before the edge or the cycle of it. -/
def Enc.raced (e : Enc) : Bool :=
  e.aSync1 != e.aSync2 || e.aOld1 != e.aOld2 ||
  !(e.bSync2 == e.bOld1 && e.bOld1 == e.bOld2 && e.bOld2 == e.bOld3)

/-- The sense of an edge (R141): A equal to B after it counts up, ENC_POL inverts. -/
def edgeUp (cfg : ChanCfg) (e : Enc) : Bool := (e.aSync2 == e.bSync2) != cfg.encPol

/-- Count one tick up or down at time `now` (R141). -/
def countTick (now : Word) (up : Bool) (e : Enc) : Enc :=
  { e with count := if up then e.count + 1#32 else e.count - 1#32, lastEdgeMs := now }

/-- The tick of an edge: the free value decides one whose pins raced (log 9). -/
def edgeDraw (cfg : ChanCfg) (free : Nat) (e : Enc) : TickDraw :=
  if e.raced then Config.tickDraw free else if edgeUp cfg e then .up else .down

/-- An edge's effect on the encoder: the tick, if one is counted, and `a_seen` (R141). -/
def takeEdge (now : Word) (draw : TickDraw) (e : Enc) : Enc :=
  let e' := { e with aSeen := e.aSync2 }
  match draw with
  | .up => countTick now true e'
  | .down => countTick now false e'
  | .uncounted => e'

/-- The edge detector of channel c in one clock cycle (R141). -/
def edgeDetect (c : Chan) (s : State) : State :=
  let x := s.ch c
  if x.enc.aSync2 = x.enc.aSeen then s
  else
    let t := s.setEnc c (takeEdge s.now (edgeDraw x.cfg s.freeCtr x.enc) x.enc)
    if x.enc.raced then { t with freeCtr := s.freeCtr + 1 } else t

/-! ## The window (R143, R144) -/

/-- `window_append` (R143): a full window drops its oldest sample. -/
def windowAppend (w : List Sample) (x : Sample) : List Sample :=
  (if w.length = Config.winCap then w.drop 1 else w) ++ [x]

/-- `window_evict` (R143): drop samples strictly older than WINDOW_MS from the head. -/
def windowEvict (now windowMs : Word) (w : List Sample) : List Sample :=
  w.dropWhile fun x => decide ((now - x.ts).toNat > windowMs.toNat)

/-- `SD`: the exact sum of the tick deltas (R144). -/
def windowTicks (w : List Sample) : Int := (w.map Sample.d).sum

/-- `ST`: the exact sum of the intervals (R144). -/
def windowTime (w : List Sample) : Nat := (w.map fun x => x.dt.toNat).sum

/-- `window_rpm` (R144). -/
def windowRpm (tpr : Word) (w : List Sample) : F32 :=
  if windowTime w = 0 then fZero
  else
    fdiv (fdiv (f32OfInt (windowTicks w)) (f32OfInt tpr.toNat))
      (fdiv (f32OfInt (windowTime w)) fSixtyThousand)

/-- A sample is taken (R142): MIN_INTERVAL_MS has passed since the last one. -/
def State.sampleDue (s : State) (c : Chan) : Bool :=
  decide ((s.ch c).cfg.minIntervalMs.toNat ≤ (s.elapsed (s.ch c).enc.lastUpdMs).toNat)

/-- The window after a sample at `now` (R142, R143). -/
def sampledWindow (now : Word) (cfg : ChanCfg) (e : Enc) : List Sample :=
  windowEvict now cfg.windowMs
    (windowAppend e.win { ts := now, d := (e.count - e.prev).toInt, dt := now - e.lastUpdMs })

/-- An encoder after a sample at `now` (R142). -/
def sampleEnc (now : Word) (cfg : ChanCfg) (e : Enc) : Enc :=
  { e with
    win := sampledWindow now cfg e
    prev := e.count
    lastUpdMs := now
    rpm := windowRpm cfg.tpr (sampledWindow now cfg e) }

/-- `enc_update(c)` (R142): the value it returns is the `rpm` it leaves. -/
def encUpdate (c : Chan) (s : State) : State :=
  if s.sampleDue c then s.setEnc c (sampleEnc s.now (s.ch c).cfg (s.ch c).enc) else s

/-- `enc_reset` on an encoder at `now` (R146). LAST_EDGE_MS is kept (R145). -/
def resetEnc (now : Word) (e : Enc) : Enc :=
  { e with count := 0#32, prev := 0#32, win := [], rpm := fZero, lastUpdMs := now }

/-- `enc_reset(c)` (R146). -/
def encReset (c : Chan) (s : State) : State := s.setEnc c (resetEnc s.now (s.ch c).enc)

/-! ## Meanings -/

/-- ENC_UPDATE (R142). -/
def execEncUpdate (ch : BitVec 4) (s : State) : Host.Outcome State Fault Refusal :=
  .next (onChannel ch s fun c => (encUpdate c s).setResult ((encUpdate c s).ch c).enc.rpm)

/-- ENC_RESET (R145). -/
def execEncReset (ch : BitVec 4) (s : State) : Host.Outcome State Fault Refusal :=
  .next (onChannel ch s fun c => encReset c s)

end Sys2Proof.Machine
end

