-- ==== Sys2Proof/Machine/PidLaw.lean ====
section
/-! DEFINITION. The PID-plus-feedforward control law (42_pid.md): `pid_eval`, PID_COMPUTE and PID_RESET. -/

namespace Sys2Proof.Machine

open Sys2Proof

/-- The integral after one evaluation with error `e` over `dt` (R161, R162): accumulated when the gate is off or
|e| is below the bound, then clamped when the clamp is on. -/
def pidIntegral (g : ChanCfg) (p : Pid) (e dt : F32) : F32 :=
  let i := if !g.iGateEn || flt (fabs e) g.iErrBound then fadd p.integral (fmul e dt) else p.integral
  if g.iLimitEn then fclamp i (fneg g.iLimit) g.iLimit else i

/-- `raw`: the proportional, integral and derivative terms and the feedforward, each operation rounded in the order
R161 writes it. -/
def pidRaw (g : ChanCfg) (p : Pid) (target e i dt : F32) : F32 :=
  let d := fdiv (fsub e p.lastErr) dt
  let pid := fadd (fadd (fmul g.kp e) (fmul g.ki i)) (fmul g.kd d)
  let ff := fadd (fmul g.kff target) g.ffOffset
  fadd pid ff

/-- `out`: the slew limit from the last output (R165), then the output clamp (R166). -/
def pidLimit (g : ChanCfg) (p : Pid) (raw : F32) : F32 :=
  let delta := fclamp (fsub raw p.lastOut) (fneg g.slewMax) g.slewMax
  fclamp (fadd p.lastOut delta) g.dutyMin g.dutyMax

/-- `out` of `pid_eval(c, T, C, dt)` (R161), before the fault check. -/
def pidOut (g : ChanCfg) (p : Pid) (target current dt : F32) : F32 :=
  let e := fsub target current
  pidLimit g p (pidRaw g p target e (pidIntegral g p e dt) dt)

/-- The law's state after an evaluation that did not fault (R161). -/
def pidStored (g : ChanCfg) (p : Pid) (target current dt : F32) : Pid :=
  let e := fsub target current
  let out := pidOut g p target current dt
  { integral := pidIntegral g p e dt
    lastErr := e
    lastOut := out
    satMin := feq out g.dutyMin
    satMax := feq out g.dutyMax
    numFault := false }

/-- The law's state after `pid_reset` (R170). NUM_FAULT is kept. -/
def resetPid (p : Pid) : Pid :=
  { p with integral := fZero, lastErr := fZero, lastOut := fZero, satMin := false, satMax := false }

/-- `pid_reset(c)` (R170). -/
def pidReset (c : Chan) (s : State) : State := s.setPid c (resetPid (s.ch c).pid)

/-- `num_fault(c)` (R167). -/
def numFault (c : Chan) (s : State) : State :=
  raiseError (.numFault c) c.field (s.setPid c { resetPid (s.ch c).pid with numFault := true })

/-- `pid_eval(c, T, C, dt)` returns FAULT: its `out` is NaN (R161, R167). -/
def State.pidFaults (s : State) (c : Chan) (target current dt : F32) : Bool :=
  isnan (pidOut (s.ch c).cfg (s.ch c).pid target current dt)

/-- The state `pid_eval(c, T, C, dt)` leaves (R161): the stored law and SATc (STATUS bit 16 + c), or a numeric fault. -/
def pidEval (c : Chan) (target current dt : F32) (s : State) : State :=
  if s.pidFaults c target current dt then numFault c s
  else
    let p := pidStored (s.ch c).cfg (s.ch c).pid target current dt
    let t := s.setPid c p
    if p.satMin || p.satMax then t.setSticky (16 + c.index) else t

/-! ## Meanings -/

/-- The effect of PID_COMPUTE on checked operands (R168): RESULT is the duty, or 0 on a fault. -/
def pidCompute (c : Chan) (s : State) : State :=
  (pidEval c s.ctl.arg0 s.ctl.arg1 s.ctl.arg2 s).setResult
    (if s.pidFaults c s.ctl.arg0 s.ctl.arg1 s.ctl.arg2 then 0#32
     else pidOut (s.ch c).cfg (s.ch c).pid s.ctl.arg0 s.ctl.arg1 s.ctl.arg2)

/-- PID_COMPUTE (R168): all three operands finite, dt greater than +0. -/
def execPidCompute (ch : BitVec 4) (s : State) : Host.Outcome State Fault Refusal :=
  .next (onChannel ch s fun c =>
    needFinite s.ctl.arg0 c.field s
      (needFinite s.ctl.arg1 c.field s
        (needFinite s.ctl.arg2 c.field s
          (needRange (fgt s.ctl.arg2 fZero) c.field s (pidCompute c s)))))

/-- PID_RESET (R169). -/
def execPidReset (ch : BitVec 4) (s : State) : Host.Outcome State Fault Refusal :=
  .next (onChannel ch s fun c => pidReset c s)

end Sys2Proof.Machine
end

