-- ==== Sys2Proof/Machine/MotorLoop.lean ====
section
/-! DEFINITION. The motor loop (43_motor_loop.md): SET_TARGET, STEP, BRAKE and the PWM generator. -/

namespace Sys2Proof.Machine

open Sys2Proof

/-! ## PWM (R187, R191) -/

/-- `conv(x, TOP) = min(TOP + 1, floor(x * (TOP + 1)))` on x's exact value (R191). R191 defines it for x in [0, 1]; a
negative nonzero or non-finite x, which no run produces, gives the free value (log 12). -/
def pwmConv (x : F32) (top : BitVec 16) : BitVec 17 :=
  if !finite x || (fSign x && fMag x != 0) then Config.compareOutside x top
  else BitVec.ofNat 17 (min (top.toNat + 1) (fMag x * (top.toNat + 1) / 2 ^ 149))

/-- `zero_output` on a motor loop (R187). -/
def zeroMotor (m : Motor) : Motor := { m with pendDuty := fZero, pwmCmp := 0#17 }

/-- `zero_output(c)` (R187): the compare value falls at once, without waiting for the period to end. -/
def zeroOutput (c : Chan) (s : State) : State := s.setMot c (zeroMotor (s.ch c).mot)

/-- One clock cycle of a PWM generator (R191). -/
def pwmTick (top : BitVec 16) (m : Motor) : Motor :=
  let m := { m with pin := decide (m.pwmCnt < m.pwmCmp.toNat) && !m.brake }
  if m.pwmCnt = top.toNat then { m with pwmCnt := 0, pwmCmp := pwmConv m.pendDuty top }
  else { m with pwmCnt := m.pwmCnt + 1 }

/-- A write of PWM_TOP restarts a channel's period (R191). -/
def pwmRestart (top : BitVec 16) (m : Motor) : Motor := { m with pwmCnt := 0, pwmCmp := pwmConv m.pendDuty top }

/-! ## Target (R180, R181) -/

/-- A channel goes to the stopped state (R180 zero target, R186): TARGET 0, output zeroed, PID reset, and the encoder
reset when TARGET was nonzero (R182). -/
def stopChannel (c : Chan) (s : State) : State :=
  let wasActive := (s.ch c).mot.active
  let s := s.setMot c { (s.ch c).mot with target := fZero }
  let s := pidReset c (zeroOutput c s)
  if wasActive then encReset c s else s

/-- Arming (R181): PID and encoder reset, LAST_STEP_MS takes `now`. -/
def armChannel (c : Chan) (s : State) : State :=
  let s := encReset c (pidReset c s)
  s.setMot c { (s.ch c).mot with lastStepMs := s.now }

/-- SET_TARGET's effect with a nonzero finite target (R180). -/
def driveChannel (c : Chan) (rpm : F32) (s : State) : State :=
  let s := if (s.ch c).mot.active then s else armChannel c s
  s.setMot c { (s.ch c).mot with target := fabs rpm, dirNeg := flt rpm fZero, brake := false }

/-- SET_TARGET's effect on a finite target (R180). -/
def setTarget (c : Chan) (rpm : F32) (s : State) : State :=
  if feq (fabs rpm) fZero then stopChannel c s else driveChannel c rpm s

/-! ## Step (R183-R185, R189) -/

/-- The rate gate is open (R184): TARGET is nonzero and `max(MIN_PERIOD_MS, 1)` ms have passed since LAST_STEP_MS. -/
def State.stepDue (s : State) (c : Chan) : Bool :=
  (s.ch c).mot.active &&
  decide (max (s.ch c).cfg.minPeriodMs.toNat 1 ≤ (s.elapsed (s.ch c).mot.lastStepMs).toNat)

/-- The feedback projected on the commanded direction (R185). -/
def projectRpm (m : Motor) (rpm : F32) : F32 := if m.dirNeg then fneg rpm else rpm

/-- `dt` in seconds of an interval in ms (R183). -/
def stepDt (el : Word) : F32 := fdiv (f32OfInt el.toNat) fThousand

/-- `step_fault(c)` (R189). -/
def stepFault (c : Chan) (s : State) : State :=
  let s := s.setMot c { (s.ch c).mot with target := fZero }
  encReset c (zeroOutput c s)

/-- STEP past the rate gate (R183). -/
def stepExecuted (c : Chan) (s : State) : State :=
  let el := s.elapsed (s.ch c).mot.lastStepMs
  let u := encUpdate c s
  let m := (u.ch c).mot
  let current := projectRpm m (u.ch c).enc.rpm
  let v := pidEval c m.target current (stepDt el) u
  let t := v.setMot c { (v.ch c).mot with lastStepMs := s.now, lastDtMs := el }
  if u.pidFaults c m.target current (stepDt el) then (stepFault c t).setResult 3#32
  else (t.setMot c { (t.ch c).mot with pendDuty := (v.ch c).pid.lastOut }).setResult 1#32

/-- STEP's effect (R183): a step too soon or on a stopped channel is skipped. -/
def stepChannel (c : Chan) (s : State) : State :=
  if s.stepDue c then stepExecuted c s else s.setResult 0#32

/-! ## Brake (R186) -/

/-- BRAKE's effect (R186). -/
def brakeChannel (c : Chan) (s : State) : State :=
  let s := stopChannel c s
  s.setMot c { (s.ch c).mot with brake := true }

/-! ## Meanings -/

/-- SET_TARGET (R180): ARG0 must be finite. -/
def execSetTarget (ch : BitVec 4) (s : State) : Host.Outcome State Fault Refusal :=
  .next (onChannel ch s fun c => needFinite s.ctl.arg0 c.field s (setTarget c s.ctl.arg0 s))

/-- STEP (R183). -/
def execStep (ch : BitVec 4) (s : State) : Host.Outcome State Fault Refusal :=
  .next (onChannel ch s fun c => stepChannel c s)

/-- BRAKE (R186). -/
def execBrake (ch : BitVec 4) (s : State) : Host.Outcome State Fault Refusal :=
  .next (onChannel ch s fun c => brakeChannel c s)

end Sys2Proof.Machine
end

