-- ==== Sys2Proof/Machine/Bus.lean ====
section
/-! DEFINITION. The register file on the word bus (R20-R57, R70-R72, R121, R122): the address map, every register's read,
every register's write with its legality condition, and what one bus access asks for. -/

namespace Sys2Proof.Machine

open Sys2Proof

/-! ## The address map (R22, R47) -/

/-- The registers of a motor channel (R47). -/
inductive ChReg where
  | mcfg
  | kp
  | ki
  | kd
  | kff
  | ffOffset
  | slewMax
  | dutyMin
  | dutyMax
  | iLimit
  | iErrBound
  | minPeriodMs
  | tpr
  | windowMs
  | minIntervalMs
  | staleMult
  | target
  | measRpm
  | lastErr
  | integral
  | lastOut
  | ticks
  | winCount
  | edgeAgeMs
  | mstat
  | lastDtMs
  | pwmCmp
  | lastStepMs
  | lastUpdMs
  | lastEdgeMs
  deriving DecidableEq, Repr

/-- The registers of MCB (R22). -/
inductive Reg where
  | id
  | cfg
  | status
  | irqEn
  | errCode
  | timeMs
  | cmd
  | arg0
  | arg1
  | arg2
  | result
  | pwmTop
  | baudDiv
  | fifoStat
  | rxOkCnt
  | rxCsumErrCnt
  | rxLenErrCnt
  | rxIdErrCnt
  | rxFerrCnt
  | rxDiscardCnt
  | txFrameCnt
  | linkStat
  | backoffMs
  | heartbeatMs
  | vmax
  | wmax
  | eps
  | cmdInV
  | cmdInW
  | lastSentV
  | lastSentW
  | lastSendMs
  | downSinceMs
  | rxV
  | rxW
  | rxSeq
  | tlmBatt
  | tlmAx
  | tlmAy
  | tlmAz
  | tlmGx
  | tlmGy
  | tlmGz
  | tlmFlags
  | hRpmL
  | hRpmR
  | hBatt
  | hAx
  | hAy
  | hAz
  | hGx
  | hGy
  | hGz
  | hEchoV
  | hEchoW
  | hFlags
  | tlmSeq
  | chan (c : Chan) (r : ChReg)
  deriving DecidableEq, Repr

/-- The channel offsets k (R47). -/
def chRegMap : List (Nat × ChReg) :=
  [(0x00, .mcfg), (0x04, .kp), (0x08, .ki), (0x0C, .kd), (0x10, .kff), (0x14, .ffOffset), (0x18, .slewMax),
   (0x1C, .dutyMin), (0x20, .dutyMax), (0x24, .iLimit), (0x28, .iErrBound), (0x2C, .minPeriodMs), (0x30, .tpr),
   (0x34, .windowMs), (0x38, .minIntervalMs), (0x3C, .staleMult), (0x40, .target), (0x44, .measRpm),
   (0x48, .lastErr), (0x4C, .integral), (0x50, .lastOut), (0x54, .ticks), (0x58, .winCount), (0x5C, .edgeAgeMs),
   (0x60, .mstat), (0x64, .lastDtMs), (0x68, .pwmCmp), (0x6C, .lastStepMs), (0x70, .lastUpdMs),
   (0x74, .lastEdgeMs)]

/-- The offsets of the global registers (R22). -/
def globalRegMap : List (Nat × Reg) :=
  [(0x000, .id), (0x004, .cfg), (0x008, .status), (0x00C, .irqEn), (0x010, .errCode), (0x014, .timeMs),
   (0x018, .cmd), (0x01C, .arg0), (0x020, .arg1), (0x024, .arg2), (0x028, .result), (0x02C, .pwmTop),
   (0x030, .baudDiv), (0x034, .fifoStat), (0x038, .rxOkCnt), (0x03C, .rxCsumErrCnt), (0x040, .rxLenErrCnt),
   (0x044, .rxIdErrCnt), (0x048, .rxFerrCnt), (0x04C, .rxDiscardCnt), (0x050, .txFrameCnt), (0x080, .linkStat),
   (0x084, .backoffMs), (0x088, .heartbeatMs), (0x08C, .vmax), (0x090, .wmax), (0x094, .eps), (0x098, .cmdInV),
   (0x09C, .cmdInW), (0x0A0, .lastSentV), (0x0A4, .lastSentW), (0x0A8, .lastSendMs), (0x0AC, .downSinceMs)] ++
  [(0x0C0, .rxV), (0x0C4, .rxW), (0x0C8, .rxSeq), (0x0D0, .tlmBatt), (0x0D4, .tlmAx), (0x0D8, .tlmAy),
   (0x0DC, .tlmAz), (0x0E0, .tlmGx), (0x0E4, .tlmGy), (0x0E8, .tlmGz), (0x0EC, .tlmFlags), (0x100, .hRpmL),
   (0x104, .hRpmR), (0x108, .hBatt), (0x10C, .hAx), (0x110, .hAy), (0x114, .hAz), (0x118, .hGx), (0x11C, .hGy),
   (0x120, .hGz), (0x124, .hEchoV), (0x128, .hEchoW), (0x12C, .hFlags), (0x130, .tlmSeq)]

/-- The address map (R22, R47): channel c's registers stand at 0x200 + 0x80 c + k. -/
def regMap : List (Nat × Reg) :=
  globalRegMap ++ chRegMap.map (fun e => (0x200 + e.1, .chan .c0 e.2)) ++
  chRegMap.map (fun e => (0x280 + e.1, .chan .c1 e.2))

/-- The register at a byte offset, bits 1:0 ignored (R70), if the offset is listed. -/
def regAt (addr : Word) : Option Reg :=
  (regMap.find? fun e => e.1 == (addr &&& 0xFFFFFFFC#32).toNat).map (·.2)

/-- The roles of a register (R22, R4). -/
def Reg.present : Reg → Role → Bool
  | .pwmTop, r | .rxV, r | .rxW, r | .rxSeq, r | .tlmBatt, r | .tlmAx, r | .tlmAy, r | .tlmAz, r | .tlmGx, r
  | .tlmGy, r | .tlmGz, r | .tlmFlags, r | .chan _ _, r => r == .controller
  | .heartbeatMs, r | .vmax, r | .wmax, r | .eps, r | .cmdInV, r | .cmdInW, r | .lastSentV, r | .lastSentW, r
  | .lastSendMs, r | .hRpmL, r | .hRpmR, r | .hBatt, r | .hAx, r | .hAy, r | .hAz, r | .hGx, r | .hGy, r
  | .hGz, r | .hEchoV, r | .hEchoW, r | .hFlags, r | .tlmSeq, r => r == .host
  | .id, _ | .cfg, _ | .status, _ | .irqEn, _ | .errCode, _ | .timeMs, _ | .cmd, _ | .arg0, _ | .arg1, _
  | .arg2, _ | .result, _ | .baudDiv, _ | .fifoStat, _ | .rxOkCnt, _ | .rxCsumErrCnt, _ | .rxLenErrCnt, _
  | .rxIdErrCnt, _ | .rxFerrCnt, _ | .rxDiscardCnt, _ | .txFrameCnt, _ | .linkStat, _ | .backoffMs, _
  | .downSinceMs, _ => true

/-! ## Reads (R121) -/

/-- The role as CFG.ROLE reads it (R24). -/
def roleBit : Role → Bool
  | .controller => false
  | .host => true

/-- FIFO_STAT (R34): RXF_COUNT in 3:0, RXBUF_COUNT in 15:8, TXF_COUNT in 24:16. -/
def State.fifoStat (s : State) : Word :=
  place 32 (BitVec.ofNat 4 s.codec.rxq.length) 0 ||| place 32 (BitVec.ofNat 8 s.codec.rxbuf.length) 8 |||
  place 32 (BitVec.ofNat 9 s.codec.txq.length) 16

/-- LINK_STAT (R36): UP, TX_BUSY, RX_BUSY in bits 0 to 2. -/
def State.linkStat (s : State) : Word :=
  flag 32 s.linkUp 0 ||| flag 32 s.utx.busy 1 ||| flag 32 (s.urx.state == .busy) 2

/-- The value of a channel register (R47-R57). -/
def readChReg (c : Chan) (r : ChReg) (s : State) : Word :=
  let x := s.ch c
  match r with
  | .mcfg => x.cfg.mcfg.setWidth 32
  | .kp => x.cfg.kp
  | .ki => x.cfg.ki
  | .kd => x.cfg.kd
  | .kff => x.cfg.kff
  | .ffOffset => x.cfg.ffOffset
  | .slewMax => x.cfg.slewMax
  | .dutyMin => x.cfg.dutyMin
  | .dutyMax => x.cfg.dutyMax
  | .iLimit => x.cfg.iLimit
  | .iErrBound => x.cfg.iErrBound
  | .minPeriodMs => x.cfg.minPeriodMs
  | .tpr => x.cfg.tpr
  | .windowMs => x.cfg.windowMs
  | .minIntervalMs => x.cfg.minIntervalMs
  | .staleMult => x.cfg.staleMult
  | .target => x.mot.target
  | .measRpm => x.enc.rpm
  | .lastErr => x.pid.lastErr
  | .integral => x.pid.integral
  | .lastOut => x.pid.lastOut
  | .ticks => x.enc.count
  | .winCount => BitVec.ofNat 32 x.enc.win.length
  | .edgeAgeMs => s.elapsed x.enc.lastEdgeMs
  | .mstat => (s.mstat c).setWidth 32
  | .lastDtMs => x.mot.lastDtMs
  | .pwmCmp => x.mot.pwmCmp.setWidth 32
  | .lastStepMs => x.mot.lastStepMs
  | .lastUpdMs => x.enc.lastUpdMs
  | .lastEdgeMs => x.enc.lastEdgeMs

/-- The value of a register present in the role (R23-R57). CMD is write-only and reads 0 (R29). -/
def readReg (r : Reg) (s : State) : Word :=
  match r with
  | .id => Config.idValue
  | .cfg => flag 32 (roleBit s.par.role) 0 ||| place 32 s.ctl.cfg 1
  | .status => s.status.setWidth 32
  | .irqEn => s.ctl.irqEn.setWidth 32
  | .errCode => place 32 s.ctl.errCode 0 ||| place 32 s.ctl.errCh 8
  | .timeMs => s.clk.timeMs
  | .cmd => 0#32
  | .arg0 => s.ctl.arg0
  | .arg1 => s.ctl.arg1
  | .arg2 => s.ctl.arg2
  | .result => s.ctl.result
  | .pwmTop => s.ctl.pwmTop.setWidth 32
  | .baudDiv => s.ctl.baudDiv.setWidth 32
  | .fifoStat => s.fifoStat
  | .rxOkCnt => s.cnt.rxOk
  | .rxCsumErrCnt => s.cnt.rxCsumErr
  | .rxLenErrCnt => s.cnt.rxLenErr
  | .rxIdErrCnt => s.cnt.rxIdErr
  | .rxFerrCnt => s.cnt.rxFerr
  | .rxDiscardCnt => s.cnt.rxDiscard
  | .txFrameCnt => s.cnt.txFrame
  | .linkStat => s.linkStat
  | .backoffMs => s.link.backoffMs
  | .heartbeatMs => s.hb.heartbeatMs
  | .vmax => s.hb.vmax
  | .wmax => s.hb.wmax
  | .eps => s.hb.eps
  | .cmdInV => s.hb.cmdInV
  | .cmdInW => s.hb.cmdInW
  | .lastSentV => s.hb.lastSentV
  | .lastSentW => s.hb.lastSentW
  | .lastSendMs => s.hb.lastSendMs
  | .downSinceMs => s.link.downSinceMs
  | .rxV => s.vel.v
  | .rxW => s.vel.w
  | .rxSeq => s.vel.seq
  | .tlmBatt => s.tlm.batt
  | .tlmAx => s.tlm.ax
  | .tlmAy => s.tlm.ay
  | .tlmAz => s.tlm.az
  | .tlmGx => s.tlm.gx
  | .tlmGy => s.tlm.gy
  | .tlmGz => s.tlm.gz
  | .tlmFlags => s.tlm.flags.setWidth 32
  | .hRpmL => s.lat.rpmL
  | .hRpmR => s.lat.rpmR
  | .hBatt => s.lat.batt
  | .hAx => s.lat.ax
  | .hAy => s.lat.ay
  | .hAz => s.lat.az
  | .hGx => s.lat.gx
  | .hGy => s.lat.gy
  | .hGz => s.lat.gz
  | .hEchoV => s.lat.echoV
  | .hEchoW => s.lat.echoW
  | .hFlags => s.lat.flags.setWidth 32
  | .tlmSeq => s.lat.seq
  | .chan c r => readChReg c r s

/-- A bus read (R70, R121): unlisted offsets and registers of absent units read 0 (R22). -/
def busRead (addr : Word) (s : State) : Word :=
  match regAt addr with
  | some r => if r.present s.par.role then readReg r s else 0#32
  | none => 0#32

/-! ## Writes (R122) -/

/-- A limit's legality: finite and not less than +0 (R39, R40, R50, R51). -/
def legalLimit (v : F32) : Bool := finite v && !flt v fZero

/-- The legality conditions of channel registers (R122). -/
def legalChWrite (x : ChanCfg) (r : ChReg) (v : Word) : Bool :=
  match r with
  | .kp | .ki | .kd | .kff | .ffOffset => finite v
  | .slewMax | .iLimit | .iErrBound => legalLimit v
  | .dutyMin => legalLimit v && !fgt v x.dutyMax
  | .dutyMax => finite v && !fgt v fOne && !flt v x.dutyMin
  | .tpr => v != 0#32
  | .mcfg | .minPeriodMs | .windowMs | .minIntervalMs | .staleMult | .target | .measRpm | .lastErr | .integral
  | .lastOut | .ticks | .winCount | .edgeAgeMs | .mstat | .lastDtMs | .pwmCmp | .lastStepMs | .lastUpdMs
  | .lastEdgeMs => true

/-- The legality conditions of R122; every other register accepts every value. -/
def legalWrite (r : Reg) (v : Word) (s : State) : Bool :=
  match r with
  | .baudDiv => 2 ≤ (v.extractLsb' 0 16).toNat
  | .vmax | .wmax | .eps => legalLimit v
  | .chan c q => legalChWrite (s.ch c).cfg q v
  | .id | .cfg | .status | .irqEn | .errCode | .timeMs | .cmd | .arg0 | .arg1 | .arg2 | .result | .pwmTop
  | .fifoStat | .rxOkCnt | .rxCsumErrCnt | .rxLenErrCnt | .rxIdErrCnt | .rxFerrCnt | .rxDiscardCnt | .txFrameCnt
  | .linkStat | .backoffMs | .heartbeatMs | .cmdInV | .cmdInW | .lastSentV | .lastSentW | .lastSendMs
  | .downSinceMs | .rxV | .rxW | .rxSeq | .tlmBatt | .tlmAx | .tlmAy | .tlmAz | .tlmGx | .tlmGy | .tlmGz
  | .tlmFlags | .hRpmL | .hRpmR | .hBatt | .hAx | .hAy | .hAz | .hGx | .hGy | .hGz | .hEchoV | .hEchoW | .hFlags
  | .tlmSeq => true

/-- A channel's configuration after a legal write, reserved bits forced to 0; read-only registers ignore it (R122). -/
def storeChReg (r : ChReg) (v : Word) (x : ChanCfg) : ChanCfg :=
  match r with
  | .mcfg => { x with mcfg := v.extractLsb' 0 4 }
  | .kp => { x with kp := v }
  | .ki => { x with ki := v }
  | .kd => { x with kd := v }
  | .kff => { x with kff := v }
  | .ffOffset => { x with ffOffset := v }
  | .slewMax => { x with slewMax := v }
  | .dutyMin => { x with dutyMin := v }
  | .dutyMax => { x with dutyMax := v }
  | .iLimit => { x with iLimit := v }
  | .iErrBound => { x with iErrBound := v }
  | .minPeriodMs => { x with minPeriodMs := v }
  | .tpr => { x with tpr := v }
  | .windowMs => { x with windowMs := v }
  | .minIntervalMs => { x with minIntervalMs := v }
  | .staleMult => { x with staleMult := v }
  | .target | .measRpm | .lastErr | .integral | .lastOut | .ticks | .winCount | .edgeAgeMs | .mstat | .lastDtMs
  | .pwmCmp | .lastStepMs | .lastUpdMs | .lastEdgeMs => x

/-- A write of PWM_TOP stores TOP and restarts both channels' periods in the same step (R191). -/
def writePwmTop (top : BitVec 16) (s : State) : State :=
  { s with
    ctl := { s.ctl with pwmTop := top }
    ch0 := { s.ch0 with mot := pwmRestart top s.ch0.mot }
    ch1 := { s.ch1 with mot := pwmRestart top s.ch1.mot } }

/-- The effect of a legal write of a register present in the role (R122): reserved fields forced to 0, read-only
registers unchanged, STATUS W1C, ERR_CODE cleared. A write of CMD is a command and not a store (R120). -/
def storeReg (r : Reg) (v : Word) (s : State) : State :=
  match r with
  | .cfg => { s with ctl := { s.ctl with cfg := v.extractLsb' 1 3 } }
  | .status => clearSticky v s
  | .irqEn => { s with ctl := { s.ctl with irqEn := v.extractLsb' 0 20 } }
  | .errCode => clearErrCode s
  | .arg0 => { s with ctl := { s.ctl with arg0 := v } }
  | .arg1 => { s with ctl := { s.ctl with arg1 := v } }
  | .arg2 => { s with ctl := { s.ctl with arg2 := v } }
  | .pwmTop => writePwmTop (v.extractLsb' 0 16) s
  | .baudDiv => { s with ctl := { s.ctl with baudDiv := v.extractLsb' 0 16 } }
  | .backoffMs => { s with link := { s.link with backoffMs := v } }
  | .heartbeatMs => { s with hb := { s.hb with heartbeatMs := v } }
  | .vmax => { s with hb := { s.hb with vmax := v } }
  | .wmax => { s with hb := { s.hb with wmax := v } }
  | .eps => { s with hb := { s.hb with eps := v } }
  | .cmdInV => { s with hb := { s.hb with cmdInV := v } }
  | .cmdInW => { s with hb := { s.hb with cmdInW := v } }
  | .tlmBatt => { s with tlm := { s.tlm with batt := v } }
  | .tlmAx => { s with tlm := { s.tlm with ax := v } }
  | .tlmAy => { s with tlm := { s.tlm with ay := v } }
  | .tlmAz => { s with tlm := { s.tlm with az := v } }
  | .tlmGx => { s with tlm := { s.tlm with gx := v } }
  | .tlmGy => { s with tlm := { s.tlm with gy := v } }
  | .tlmGz => { s with tlm := { s.tlm with gz := v } }
  | .tlmFlags => { s with tlm := { s.tlm with flags := v.extractLsb' 0 16 } }
  | .chan c q => s.setCh c { s.ch c with cfg := storeChReg q v (s.ch c).cfg }
  | .id | .timeMs | .cmd | .result | .fifoStat | .rxOkCnt | .rxCsumErrCnt | .rxLenErrCnt | .rxIdErrCnt
  | .rxFerrCnt | .rxDiscardCnt | .txFrameCnt | .linkStat | .lastSentV | .lastSentW | .lastSendMs | .downSinceMs
  | .rxV | .rxW | .rxSeq | .hRpmL | .hRpmR | .hBatt | .hAx | .hAy | .hAz | .hGx | .hGy | .hGz | .hEchoV | .hEchoW
  | .hFlags | .tlmSeq => s

/-- A write of a listed register (R122): ignored where its unit is absent (R22), rejected whole with 0x07 where the
value fails its legality condition. -/
def writeReg (r : Reg) (v : Word) (s : State) : State :=
  if r.present s.par.role then
    if legalWrite r v s then storeReg r v s else raiseError .cfgReject 0#4 s
  else s

/-! ## One access (R70, R75) -/

/-- What a bus access asks for. -/
inductive BusOp where
  /-- No access, a write with a byte enable clear, or a write of an unlisted offset: nothing happens (R22, R70). -/
  | nothing
  /-- A read of the register at the offset. -/
  | read (addr : Word)
  /-- A write of a register other than CMD. -/
  | store (r : Reg) (v : Word)
  /-- A write of CMD: the word is executed as a command (R29, R120). -/
  | command (w : Word)
  deriving DecidableEq, Repr

/-- The access the master makes in this cycle (R70). -/
def busOp : Option BusAccess → BusOp
  | none => .nothing
  | some (.read addr) => .read addr
  | some (.write addr enables v) =>
    if enables = 0xF#4 then
      match regAt addr with
      | some .cmd => .command v
      | some r => .store r v
      | none => .nothing
    else .nothing

end Sys2Proof.Machine
end

