-- ==== Sys2Proof/Machine/Global.lean ====
section
/-! DEFINITION. The global commands NOP and SOFT_RESET (R124, R126), and the reset procedures (R280, R281). -/

namespace Sys2Proof.Machine

open Sys2Proof

/-- An encoder after a soft reset at `now` (R281): reset values, with the synchronisers kept and `a_seen` at the
synchronised A level. -/
def softResetEnc (now : Word) (e : Enc) : Enc :=
  { e with
    count := 0#32, prev := 0#32, win := [], rpm := fZero, lastUpdMs := now, lastEdgeMs := now, aSeen := e.aSync2 }

/-- A channel after a soft reset at `now` (R281). -/
def softResetChan (now : Word) (x : Channel) : Channel :=
  { cfg := .atReset, pid := .atReset, enc := softResetEnc now x.enc, mot := .atReset now }

/-- `reset(SOFT)` (R281): every register and hidden state takes its reset value, but TIME_MS and its prescaler, the
parameters and the synchronisers; timestamps take the current time; the link makes an attempt at once (R243).
The working registers of the UART become 0 (log 25). The pins, the environment's queues and the
model's own fields are no state of the block and stay. -/
def softReset (s : State) : State :=
  { s with
    ctl := .atReset
    cnt := .atReset
    link := .atReset s.now s.pins.ioFault
    hb := .atReset
    vel := .atReset
    tlm := .atReset
    lat := .atReset
    codec := .atReset
    utx := .atReset
    urx := { s.urx with state := .waitHigh, t := 0, div := 0, shift := 0#8 }
    ch0 := softResetChan s.now s.ch0
    ch1 := softResetChan s.now s.ch1 }

/-- NOP (R124). -/
def execNop (s : State) : Host.Outcome State Fault Refusal := .next s

/-- SOFT_RESET (R126). -/
def execSoftReset (s : State) : Host.Outcome State Fault Refusal := .next (softReset s)

end Sys2Proof.Machine
end

