-- ==== Sys2Proof/Machine/Agents.lean ====
section
/-! DEFINITION. The agents of one clock cycle (R80): what each phase does, apart from running instructions. -/

namespace Sys2Proof.Machine

open Sys2Proof

/-! ## The inputs of a cycle -/

/-- The environment's inputs when none are listed: the pins hold and nothing is accessed (log 5). -/
def CycleIn.hold (p : Pins) : CycleIn := { pins := p, bus := none, rxb := [] }

/-- The inputs of the next cycle. -/
def State.nextIn (s : State) : CycleIn := s.env.headD (.hold s.pins)

/-- The synchronisers shift at the clock edge that begins a cycle (R147, R234; log 10). -/
def shiftSyncs (s : State) : State :=
  { s with
    urx := shiftUart s.pins.uartRx s.urx
    ch0 := { s.ch0 with enc := shiftEnc s.pins.encA0 s.pins.encB0 s.ch0.enc }
    ch1 := { s.ch1 with enc := shiftEnc s.pins.encA1 s.pins.encB1 s.ch1.enc } }

/-- An encoder in power-on reset whose synchronisers keep sampling (R280): `a_seen` is the synchronised A level. -/
def resetEncSync (e : Enc) : Enc :=
  { softResetEnc 0#32 e with lastUpdMs := 0#32 }

/-- The state while and right after `rst_n` = 0 (R280): reset values, synchronisers kept, and the model's own fields
of the environment kept (log 14). -/
def resetHeld (p : Pins) (s : State) : State :=
  let z := State.powerOn s.par p
  { z with
    urx := { z.urx with sync1 := s.urx.sync1, sync2 := s.urx.sync2 }
    ch0 := { z.ch0 with enc := resetEncSync s.ch0.enc }
    ch1 := { z.ch1 with enc := resetEncSync s.ch1.enc }
    env := s.env
    freeCtr := s.freeCtr }

/-- The phase `inputs`: the cycle's inputs are taken and the synchronisers shift. While `rst_n` = 0 the block is held in
reset and the cycle has no other phase; the first cycle with `rst_n` = 1 is cycle 0 (R280). -/
def inputsPhase (s : State) : State :=
  let ci := s.nextIn
  let t := { shiftSyncs s with env := s.env.tail }
  if !ci.pins.rstN then { resetHeld ci.pins t with phase := .inputs }
  else if !s.pins.rstN then { resetHeld ci.pins t with bus := ci.bus, rxb := ci.rxb }
  else { t with pins := ci.pins, bus := ci.bus, rxb := ci.rxb, phase := .time }

/-! ## The other phases -/

/-- R80 item 1: TIME_MS increments once every `P_MS_DIV` cycles, first at the end of cycle `P_MS_DIV - 1` (R25, R280;
log 8). -/
def timePhase (s : State) : State :=
  if s.par.msDiv ≤ s.clk.msCnt then
    { s with clk := { timeMs := s.clk.timeMs + 1#32, msCnt := 1, msTick := true }, phase := .link }
  else { s with clk := { s.clk with msCnt := s.clk.msCnt + 1, msTick := false }, phase := .link }

/-- R80 item 2. -/
def linkPhase (s : State) : State := { linkCycle s with phase := .enc }

/-- R80 item 3: edge detection on each channel, at CONTROLLER. -/
def encPhase (s : State) : State :=
  let t := if s.par.role = .controller then edgeDetect .c1 (edgeDetect .c0 s) else s
  { t with phase := .rx }

/-- R80 item 4 once no byte-level byte is left: the receiver's clock cycle. -/
def rxPinPhase (s : State) : State := { rxCycle s with phase := .tx }

/-- R80 item 4 for one byte that is no whole frame of the table's: it is delivered by itself (R208). -/
def rxBytePhase (b : Byte) (rest : List Byte) (s : State) : State := deliver b { s with rxb := rest }

/-- R80 item 5. -/
def txPhase (s : State) : State := { txCycle s with phase := .pwm }

/-- R80 item 6: the PWM counters, at CONTROLLER. -/
def pwmPhase (s : State) : State :=
  let t :=
    if s.par.role = .controller then
      { s with
        ch0 := { s.ch0 with mot := pwmTick s.ctl.pwmTop s.ch0.mot }
        ch1 := { s.ch1 with mot := pwmTick s.ctl.pwmTop s.ch1.mot } }
    else s
  { t with phase := .bus }

/-- The bus phase takes the cycle's access: what is left is the access's own effect. -/
def State.busTaken (s : State) : State := { s with bus := none, phase := .stale }

/-- A bus read returns its word to the master; no read changes state (R77, R121). -/
def busReadPhase (addr : Word) (s : State) : State := { s with rdata := busRead addr s }

/-- STATUS.STALEc is set while the encoder of channel c is stale (R149). -/
def sampleStale (c : Chan) (s : State) : State := if s.stale c then s.setSticky (14 + c.index) else s

/-- R80 item 8, at CONTROLLER. The next cycle follows. -/
def stalePhase (s : State) : State :=
  let t := if s.par.role = .controller then sampleStale .c1 (sampleStale .c0 s) else s
  { t with phase := .inputs }

/-- The frame at the front of the bytes to deliver in this cycle, if they begin with one of the table's frames, and the
bytes after it. -/
def State.nextFrame (s : State) : Option (Instr × List Byte) :=
  (decodeFrame (sumWidth s.csum16Cmd) (sumWidth s.csum16Tlm) s.rxb).toOption

/-! ## Placing an instruction where the next step fetches it (log 16) -/

/-- The bytes of a table word of a frame row: the whole frame with the payload and the checksum of zeros when the row's
header is a table frame's, else the word's own bytes. -/
def State.fetchBytes (s : State) (nbits w : Nat) : List Byte :=
  match decodeFrame (sumWidth s.csum16Cmd) (sumWidth s.csum16Tlm) (tableFrame nbits w) with
  | .ok (i, _) =>
    match encode i with
    | .frame bs => bs
    | .command _ => []
  | .error _ => tableBytes (nbits / 8) w

/-- A write of CMD with the word, made by the master in this cycle. -/
def cmdWrite (w : Word) : BusAccess := .write 0x018#32 0xF#4 w

/-- A command word is placed as this cycle's bus write of CMD, and the bus is next; a frame is placed as the bytes that
arrive in this cycle, and the receiver is next. -/
def State.placeWord (s : State) (nbits w : Nat) : State :=
  if nbits ≤ 32 then { s with bus := some (cmdWrite (BitVec.ofNat 32 (w % 2 ^ nbits))), phase := .bus }
  else { s with rxb := s.fetchBytes nbits w, phase := .rx }

end Sys2Proof.Machine
end

