-- ==== Sys2Proof/Machine/Dispatch.lean ====
section
/-! DEFINITION. The dispatch: one arm for each instruction, each one call of its meaning. -/

namespace Sys2Proof.Machine

open Sys2Proof

/-- Runs an instruction (R120 for commands; a frame's arrival at the decoder, R208). -/
def exec (i : Instr) (s : State) : Host.Outcome State Fault Refusal :=
  match i with
  | .nop => Sys2Proof.Machine.execNop s
  | .setTarget ch => Sys2Proof.Machine.execSetTarget ch s
  | .step ch => Sys2Proof.Machine.execStep ch s
  | .brake ch => Sys2Proof.Machine.execBrake ch s
  | .pidReset ch => Sys2Proof.Machine.execPidReset ch s
  | .pidCompute ch => Sys2Proof.Machine.execPidCompute ch s
  | .encUpdate ch => Sys2Proof.Machine.execEncUpdate ch s
  | .encReset ch => Sys2Proof.Machine.execEncReset ch s
  | .txCmdFrame => Sys2Proof.Machine.execTxCmdFrame s
  | .txTlmFrame => Sys2Proof.Machine.execTxTlmFrame s
  | .rxPop => Sys2Proof.Machine.execRxPop s
  | .codecReset => Sys2Proof.Machine.execCodecReset s
  | .linkStep => Sys2Proof.Machine.execLinkStep s
  | .softReset => Sys2Proof.Machine.execSoftReset s
  | .velCmd p ck => Sys2Proof.Machine.execVelCmd p ck s
  | .telemetry p ck => Sys2Proof.Machine.execTelemetry p ck s

end Sys2Proof.Machine
end

