-- ==== Sys2Proof/Machine/Step.lean ====
section
/-! DEFINITION. The step: one atomic transition of one agent (R18, R75, R80). -/

namespace Sys2Proof.Machine

open Sys2Proof

/-- Command dispatch (R120): a word that fails a check of R92 raises that check's error and does nothing else. -/
def runCommand (w : Word) (s : State) : Host.Outcome State Fault Refusal :=
  match decodeCmd w with
  | .ok i => exec i s
  | .error e => .next (raiseError (rejectKind s.par.role e) 0#4 s)

/-- R80 item 7: the bus access of the cycle, if any. -/
def busPhase (s : State) : Host.Outcome State Fault Refusal :=
  match busOp s.bus with
  | .nothing => .next s.busTaken
  | .read addr => .next (busReadPhase addr s.busTaken)
  | .store r v => .next (writeReg r v s.busTaken)
  | .command w => runCommand w s.busTaken

/-- R80 item 4: byte-level bytes first, a whole frame as one instruction and any other byte by itself; then the
receiver's clock cycle. -/
def rxPhase (s : State) : Host.Outcome State Fault Refusal :=
  match s.rxb with
  | [] => .next (rxPinPhase s)
  | b :: rest =>
    match s.nextFrame with
    | some (i, after) => exec i { s with rxb := after }
    | none => .next (rxBytePhase b rest s)

/-- One step: the agent whose turn it is moves. -/
def step (s : State) : Host.Outcome State Fault Refusal :=
  match s.phase with
  | .inputs => .next (inputsPhase s)
  | .time => .next (timePhase s)
  | .link => .next (linkPhase s)
  | .enc => .next (encPhase s)
  | .rx => rxPhase s
  | .tx => .next (txPhase s)
  | .pwm => .next (pwmPhase s)
  | .bus => busPhase s
  | .stale => .next (stalePhase s)

/-- The state with an instruction of the table placed where the next step fetches it (log 16). -/
def State.withFetchWord (s : State) (nbits w : Nat) : State := s.placeWord nbits w

end Sys2Proof.Machine
end

