-- ==== Sys2Proof/Safety.lean ====
section
/-! DEFINITION. What a good state of MCB is, in the terms the statements use: legal configuration, bounded queues, bounded
actuator outputs, a consistent error report, a numeric control law, and counters inside their ranges. -/

namespace Sys2Proof.Machine

open Sys2Proof

/-- A duty in [0, 1] (R190): no NaN, not below zero, not above 1.0. -/
def inDuty (x : F32) : Bool := !isnan x && !flt x fZero && !fgt x fOne

/-! ## Legal configuration (R33, R39, R40, R49-R51, R53) -/

/-- A channel's configuration obeys every legality condition. -/
def ChanCfg.legal (g : ChanCfg) : Bool :=
  finite g.kp && finite g.ki && finite g.kd && finite g.kff && finite g.ffOffset &&
  legalLimit g.slewMax && legalLimit g.iLimit && legalLimit g.iErrBound &&
  legalLimit g.dutyMin && finite g.dutyMax && !fgt g.dutyMin g.dutyMax && !fgt g.dutyMax fOne &&
  g.tpr != 0#32

/-- Every register of the block obeys its legality condition. -/
def State.configLegal (s : State) : Bool :=
  s.ch0.cfg.legal && s.ch1.cfg.legal &&
  legalLimit s.hb.vmax && legalLimit s.hb.wmax && legalLimit s.hb.eps &&
  decide (2 ≤ s.ctl.baudDiv.toNat)

/-! ## Queues (R58, R60, R212, R241) -/

/-- The longest `rxbuf` between bytes, whatever CFG.CSUM16 is changed to: `4 + RXLEN + 2` (R212). -/
def rxBufBound (r : Role) : Nat := 6 + rxLen r

/-- Every queue is within its capacity, and a link that is down holds nothing (R241, R244). -/
def State.queuesBounded (s : State) : Bool :=
  decide (s.codec.txq.length ≤ Config.txCap) &&
  decide (s.codec.rxq.length ≤ Config.rxFrameCap) &&
  decide (s.codec.rxbuf.length ≤ rxBufBound s.par.role) &&
  decide (s.ch0.enc.win.length ≤ Config.winCap) && decide (s.ch1.enc.win.length ≤ Config.winCap) &&
  (s.link.state == .up || (s.codec == .atReset && !s.utx.busy && s.urx.state != .busy))

/-! ## Actuators (R54, R172, R190, R191) -/

/-- A motor loop's outputs are in range for this PWM_TOP: target a finite magnitude, pending duty in [0, 1], compare
value at most TOP + 1, counter at most TOP. -/
def Motor.bounded (top : BitVec 16) (m : Motor) : Bool :=
  finite m.target && !fSign m.target && inDuty m.pendDuty &&
  decide (m.pwmCmp.toNat ≤ top.toNat + 1) && decide (m.pwmCnt ≤ top.toNat)

/-- Both channels' outputs and last duties are in range. -/
def State.actuatorsBounded (s : State) : Bool :=
  s.ch0.mot.bounded s.ctl.pwmTop && s.ch1.mot.bounded s.ctl.pwmTop &&
  inDuty s.ch0.pid.lastOut && inDuty s.ch1.pid.lastOut

/-! ## The error report (R26, R28, R261) -/

/-- The codes that are ever raised (R261), and 0 for none. -/
def raisedCodes : List (BitVec 8) :=
  [0x00#8, 0x01#8, 0x02#8, 0x03#8, 0x04#8, 0x05#8, 0x06#8, 0x07#8, 0x10#8, 0x11#8, 0x12#8, 0x13#8, 0x14#8, 0x15#8,
   0x16#8, 0x17#8, 0x20#8]

/-- The STATUS bits a role never sets: 12 to 17 at HOST, 18 at CONTROLLER (R26). -/
def foreignBits : Role → BitVec 20
  | .controller => 0x40000#20
  | .host => 0x3F000#20

/-- ERR_CODE holds a code of R261 and a channel only where the code has one; the stored sticky bits lie in the sticky
positions and are none of the other role's. -/
def State.reportConsistent (s : State) : Bool :=
  raisedCodes.contains s.ctl.errCode &&
  (s.ctl.errCh == 0#4 ||
    (s.ctl.errCh == 1#4 && (s.ctl.errCode == 0x05#8 || s.ctl.errCode == 0x06#8 || s.ctl.errCode == 0x20#8))) &&
  (s.ctl.sticky &&& ~~~stickyMask) == 0#20 && (s.ctl.sticky &&& foreignBits s.par.role) == 0#20

/-! ## The control law (R167, 93 section 2) -/

/-- No register of the control law holds a NaN. -/
def State.lawNumeric (s : State) : Bool :=
  !isnan s.ch0.pid.integral && !isnan s.ch0.pid.lastErr && !isnan s.ch0.pid.lastOut &&
  !isnan s.ch1.pid.integral && !isnan s.ch1.pid.lastErr && !isnan s.ch1.pid.lastOut

/-! ## Counters of the UART and the clock (R25, R61) -/

/-- The transmitter's counters (R61): inside a byte the bit index is 0 to 9 and the cycle counter below the divisor. -/
def UartTx.inRange (u : UartTx) : Bool := !u.busy || (decide (u.idx ≤ 9) && decide (u.cnt < u.div) && decide (2 ≤ u.div))

/-- The receiver's counter (R234): inside a byte it has not passed the stop-bit sample. -/
def UartRx.inRange (u : UartRx) : Bool :=
  u.state != .busy || (decide (1 ≤ u.t) && decide (u.t ≤ 9 * u.div + u.div / 2) && decide (2 ≤ u.div))

/-- The serial and time counters are in range. -/
def State.countersInRange (s : State) : Bool :=
  s.utx.inRange && s.urx.inRange && decide (0 < s.par.msDiv) && decide (s.clk.msCnt ≤ s.par.msDiv)

/-! ## A good state -/

/-- Everything above together. -/
def State.good (s : State) : Bool :=
  s.configLegal && s.queuesBounded && s.actuatorsBounded && s.reportConsistent && s.lawNumeric && s.countersInRange

end Sys2Proof.Machine
end

