-- ==== Sys2Proof/Certificates/Slice0/Obligations.lean ====
section
/-! DEFINITION. The statements for the provers, one `def Obligations.<Name> : Prop` each, and before them the terms they
are written in (namespace Sys2Proof.Spec), each written from the spec's own tables and formulas. -/

namespace Sys2Proof.Spec

open Sys2Proof Sys2Proof.Machine

/-! ## Bus accesses -/

/-- The bus is next in this clock cycle (R80 item 7) and the master's access is `a`. -/
def onBus (s : State) (a : BusAccess) : Prop := s.phase = .bus ∧ s.bus = some a

/-- A write of a word with all four byte enables set (R70). -/
def wr (addr v : Word) : BusAccess := .write addr 0xF#4 v

/-- The access is over and has changed nothing: the cycle goes on with R80 item 8. -/
def done (s : State) : State := { s with bus := none, phase := .stale }

/-- The word offset of a byte offset: bits 1:0 are ignored (R70). -/
def offset (addr : Word) : Nat := addr.toNat / 4 * 4

/-! ## Command words (R91, R92) -/

/-- A row of R91's operation map: OP, whether CH selects a channel, and the roles. -/
structure OpRow where
  op : Nat
  chan : Bool
  controller : Bool
  host : Bool

/-- R91's operation map. -/
def opTable : List OpRow :=
  [⟨0x00, false, true, true⟩, ⟨0x01, true, true, false⟩, ⟨0x02, true, true, false⟩, ⟨0x03, true, true, false⟩,
   ⟨0x04, true, true, false⟩, ⟨0x05, true, true, false⟩, ⟨0x06, true, true, false⟩, ⟨0x07, true, true, false⟩,
   ⟨0x10, false, false, true⟩, ⟨0x11, false, true, false⟩, ⟨0x12, false, true, true⟩, ⟨0x13, false, true, true⟩,
   ⟨0x20, false, false, true⟩, ⟨0x7F, false, true, true⟩]

/-- The first of R92's checks 1 to 4 that a word fails in a role. -/
def firstFailing (role : Role) (w : Word) : Option ErrKind :=
  if 4096 ≤ w.toNat then some .cmdReservedBits
  else
    match opTable.find? fun r => r.op == w.toNat % 256 with
    | none => some .cmdUnknownOp
    | some r =>
      if !(if role = .controller then r.controller else r.host) then some .cmdWrongRole
      else if (if r.chan then 2 else 1) ≤ w.toNat / 256 then some .cmdBadChannel
      else none

/-- A frame's checksum field has the width of its channel. -/
def sumFits (cwCmd cwTlm : SumWidth) : Instr → Prop
  | .velCmd _ ck => ck.width = cwCmd
  | .telemetry _ ck => ck.width = cwTlm
  | _ => True

/-! ## Registers (R22, R122) -/

/-- The RW registers, and the bits of each that are stored. -/
def rwMask : Reg → Option Word
  | .cfg => some 0xE#32
  | .irqEn => some 0xFFFFF#32
  | .pwmTop | .baudDiv | .tlmFlags => some 0xFFFF#32
  | .arg0 | .arg1 | .arg2 | .backoffMs | .heartbeatMs | .vmax | .wmax | .eps | .cmdInV | .cmdInW
  | .tlmBatt | .tlmAx | .tlmAy | .tlmAz | .tlmGx | .tlmGy | .tlmGz => some 0xFFFFFFFF#32
  | .chan _ .mcfg => some 0xF#32
  | .chan _ .kp | .chan _ .ki | .chan _ .kd | .chan _ .kff | .chan _ .ffOffset | .chan _ .slewMax
  | .chan _ .dutyMin | .chan _ .dutyMax | .chan _ .iLimit | .chan _ .iErrBound | .chan _ .minPeriodMs
  | .chan _ .tpr | .chan _ .windowMs | .chan _ .minIntervalMs | .chan _ .staleMult => some 0xFFFFFFFF#32
  | _ => none

/-- R122's table of rejected writes. -/
def rejects (r : Reg) (v : Word) (s : State) : Bool :=
  match r with
  | .baudDiv => v.toNat % 65536 < 2
  | .vmax | .wmax | .eps | .chan _ .slewMax | .chan _ .iLimit | .chan _ .iErrBound => !finite v || flt v 0#32
  | .chan _ .kp | .chan _ .ki | .chan _ .kd | .chan _ .kff | .chan _ .ffOffset => !finite v
  | .chan c .dutyMin => !finite v || flt v 0#32 || fgt v (s.ch c).cfg.dutyMax
  | .chan c .dutyMax => !finite v || fgt v 0x3F800000#32 || flt v (s.ch c).cfg.dutyMin
  | .chan _ .tpr => v == 0#32
  | _ => false

/-- The other registers whose reading a write may change at once: the compare values for PWM_TOP (R191), MSTAT for
MCFG (R192) and for the two registers of the stale condition (R149). -/
def alsoReads : Reg → List Reg
  | .pwmTop => [.chan .c0 .pwmCmp, .chan .c1 .pwmCmp]
  | .chan c .mcfg | .chan c .windowMs | .chan c .staleMult => [.chan c .mstat]
  | _ => []

/-- The registers of a role that ignore every write: the RO ones, and those of absent units (R22). -/
def ignoresWrites (r : Reg) (role : Role) : Prop :=
  r.present role = false ∨ (rwMask r = none ∧ r ≠ .status ∧ r ≠ .errCode ∧ r ≠ .cmd)

/-- The offsets that read other than 0 after power-on reset, and what they read there (10_state.md; vector RST-1). -/
def resetWords (role : Role) (ioFault : Bool) : List (Nat × Word) :=
  [(0x000, 0x4D430007#32), (0x008, if ioFault then 0x00080000#32 else 0x00080800#32), (0x030, 868#32),
   (0x080, if ioFault then 0#32 else 1#32), (0x084, 1000#32)] ++
  match role with
  | .host => [(0x004, 1#32), (0x088, 200#32)]
  | .controller =>
    [(0x02C, 0xFFF#32),
     (0x200, 4#32), (0x22C, 20#32), (0x230, 1#32), (0x234, 200#32), (0x238, 5#32), (0x23C, 3#32),
     (0x280, 4#32), (0x2AC, 20#32), (0x2B0, 1#32), (0x2B4, 200#32), (0x2B8, 5#32), (0x2BC, 3#32)]

/-- The word an offset reads after power-on reset: 0 unless it is listed. -/
def resetWord (role : Role) (ioFault : Bool) (off : Nat) : Word :=
  ((resetWords role ioFault).find? fun e => e.1 == off).elim 0#32 (·.2)

/-- A word from its bits, bit 0 first. -/
def wordOf (bits : List Bool) : Word := (BitVec.ofBoolListLE bits).setWidth 32

/-- The offset of a channel register (R47). -/
def chOffset : ChReg → Nat
  | .mcfg => 0x00
  | .kp => 0x04
  | .ki => 0x08
  | .kd => 0x0C
  | .kff => 0x10
  | .ffOffset => 0x14
  | .slewMax => 0x18
  | .dutyMin => 0x1C
  | .dutyMax => 0x20
  | .iLimit => 0x24
  | .iErrBound => 0x28
  | .minPeriodMs => 0x2C
  | .tpr => 0x30
  | .windowMs => 0x34
  | .minIntervalMs => 0x38
  | .staleMult => 0x3C
  | .target => 0x40
  | .measRpm => 0x44
  | .lastErr => 0x48
  | .integral => 0x4C
  | .lastOut => 0x50
  | .ticks => 0x54
  | .winCount => 0x58
  | .edgeAgeMs => 0x5C
  | .mstat => 0x60
  | .lastDtMs => 0x64
  | .pwmCmp => 0x68
  | .lastStepMs => 0x6C
  | .lastUpdMs => 0x70
  | .lastEdgeMs => 0x74

/-- The offset of a register (R22, R47). -/
def regOffset : Reg → Nat
  | .id => 0x000
  | .cfg => 0x004
  | .status => 0x008
  | .irqEn => 0x00C
  | .errCode => 0x010
  | .timeMs => 0x014
  | .cmd => 0x018
  | .arg0 => 0x01C
  | .arg1 => 0x020
  | .arg2 => 0x024
  | .result => 0x028
  | .pwmTop => 0x02C
  | .baudDiv => 0x030
  | .fifoStat => 0x034
  | .rxOkCnt => 0x038
  | .rxCsumErrCnt => 0x03C
  | .rxLenErrCnt => 0x040
  | .rxIdErrCnt => 0x044
  | .rxFerrCnt => 0x048
  | .rxDiscardCnt => 0x04C
  | .txFrameCnt => 0x050
  | .linkStat => 0x080
  | .backoffMs => 0x084
  | .heartbeatMs => 0x088
  | .vmax => 0x08C
  | .wmax => 0x090
  | .eps => 0x094
  | .cmdInV => 0x098
  | .cmdInW => 0x09C
  | .lastSentV => 0x0A0
  | .lastSentW => 0x0A4
  | .lastSendMs => 0x0A8
  | .downSinceMs => 0x0AC
  | .rxV => 0x0C0
  | .rxW => 0x0C4
  | .rxSeq => 0x0C8
  | .tlmBatt => 0x0D0
  | .tlmAx => 0x0D4
  | .tlmAy => 0x0D8
  | .tlmAz => 0x0DC
  | .tlmGx => 0x0E0
  | .tlmGy => 0x0E4
  | .tlmGz => 0x0E8
  | .tlmFlags => 0x0EC
  | .hRpmL => 0x100
  | .hRpmR => 0x104
  | .hBatt => 0x108
  | .hAx => 0x10C
  | .hAy => 0x110
  | .hAz => 0x114
  | .hGx => 0x118
  | .hGy => 0x11C
  | .hGz => 0x120
  | .hEchoV => 0x124
  | .hEchoW => 0x128
  | .hFlags => 0x12C
  | .tlmSeq => 0x130
  | .chan c r => 0x200 + 0x80 * c.index + chOffset r

/-- The registers only a CONTROLLER has, and those only a HOST has (R22). -/
def onlyRole : Reg → Option Role
  | .pwmTop | .rxV | .rxW | .rxSeq | .tlmBatt | .tlmAx | .tlmAy | .tlmAz | .tlmGx | .tlmGy | .tlmGz | .tlmFlags
  | .chan _ _ => some .controller
  | .heartbeatMs | .vmax | .wmax | .eps | .cmdInV | .cmdInW | .lastSentV | .lastSentW | .lastSendMs
  | .hRpmL | .hRpmR | .hBatt | .hAx | .hAy | .hAz | .hGx | .hGy | .hGz | .hEchoV | .hEchoW | .hFlags
  | .tlmSeq => some .host
  | _ => none

/-! ## Errors (R261) -/

/-- The code and the STATUS bit of each condition (R261). -/
def errRow : ErrKind → BitVec 8 × Nat
  | .cmdReservedBits => (0x01#8, 0)
  | .cmdUnknownOp => (0x02#8, 0)
  | .cmdWrongRole => (0x03#8, 0)
  | .cmdBadChannel => (0x04#8, 0)
  | .argNonfinite => (0x05#8, 1)
  | .argRange => (0x06#8, 1)
  | .cfgReject => (0x07#8, 2)
  | .rxChecksum => (0x10#8, 4)
  | .rxLength => (0x11#8, 5)
  | .rxUnknownId => (0x12#8, 6)
  | .rxFraming => (0x13#8, 7)
  | .rxFifoOverflow => (0x14#8, 8)
  | .txFifoOverflow => (0x15#8, 9)
  | .linkIoFault => (0x16#8, 10)
  | .cmdInNonfinite => (0x17#8, 18)
  | .numFault .c0 => (0x20#8, 12)
  | .numFault .c1 => (0x20#8, 13)

/-- Set one bit of the stored STATUS. -/
def stickyOr (s : State) (i : Nat) : BitVec 20 := s.ctl.sticky ||| (1#20 <<< i)

/-- The error report (R262). -/
def report (e : ErrKind) (ch : BitVec 4) (s : State) : State :=
  { s with ctl := { s.ctl with errCode := (errRow e).1, errCh := ch, sticky := stickyOr s (errRow e).2 } }

/-- RESULT takes a word (R31). -/
def result (w : Word) (s : State) : State := { s with ctl := { s.ctl with result := w } }

/-! ## Encoder (R142 to R146) -/

/-- `window_rpm` (R144). -/
def rpmOf (tpr : Word) (w : List Sample) : F32 :=
  let sd : Int := (w.map fun x => x.d).sum
  let st : Nat := (w.map fun x => x.dt.toNat).sum
  if st = 0 then 0#32
  else fdiv (fdiv (f32OfInt sd) (f32OfInt tpr.toNat)) (fdiv (f32OfInt st) 0x476A6000#32)

/-- An encoder after `enc_update` at `now` (R142, R143): nothing changes before MIN_INTERVAL_MS has passed, else one
sample is appended, the old ones are evicted, and the cached RPM is that of the window. -/
def refreshed (now : Word) (g : ChanCfg) (e : Enc) : Enc :=
  if (now - e.lastUpdMs).toNat < g.minIntervalMs.toNat then e
  else
    let kept := if e.win.length = 32 then e.win.tail else e.win
    let sample : Sample := { ts := now, d := (e.count - e.prev).toInt, dt := now - e.lastUpdMs }
    let w := (kept ++ [sample]).dropWhile fun x => decide (g.windowMs.toNat < (now - x.ts).toNat)
    { e with win := w, prev := e.count, lastUpdMs := now, rpm := rpmOf g.tpr w }

/-- An encoder after `enc_reset` at `now` (R146). -/
def encCleared (now : Word) (e : Enc) : Enc :=
  { e with count := 0#32, prev := 0#32, win := [], rpm := 0#32, lastUpdMs := now }

/-- The pins of an edge kept R147's input requirement: both levels of A around it last at least 2 cycles, and B did not
change in the 2 cycles before the edge or the cycle of it. -/
def cleanEdge (e : Enc) : Prop :=
  e.aSync1 = e.aSync2 ∧ e.aOld1 = e.aOld2 ∧ e.bSync2 = e.bOld1 ∧ e.bOld1 = e.bOld2 ∧ e.bOld2 = e.bOld3

/-- An encoder after a counted edge at `now` (R141). -/
def ticked (now : Word) (up : Bool) (e : Enc) : Enc :=
  { e with count := if up then e.count + 1#32 else e.count - 1#32, aSeen := e.aSync2, lastEdgeMs := now }

/-! ## Control law (R161, R167, R170) -/

/-- What one evaluation of the law computes: the integral, the error and the duty. -/
structure Law where
  i : F32
  e : F32
  out : F32

/-- `pid_eval`'s arithmetic, operation by operation (R161). -/
def law (g : ChanCfg) (p : Pid) (target current dt : F32) : Law :=
  let e := fsub target current
  let i := if g.mcfg.getLsbD 3 = false ∨ flt (fabs e) g.iErrBound = true then fadd p.integral (fmul e dt) else p.integral
  let i := if g.mcfg.getLsbD 2 = true then fclamp i (fneg g.iLimit) g.iLimit else i
  let d := fdiv (fsub e p.lastErr) dt
  let pid := fadd (fadd (fmul g.kp e) (fmul g.ki i)) (fmul g.kd d)
  let ff := fadd (fmul g.kff target) g.ffOffset
  let raw := fadd pid ff
  let delta := fclamp (fsub raw p.lastOut) (fneg g.slewMax) g.slewMax
  let s := fadd p.lastOut delta
  { i := i, e := e, out := fclamp s g.dutyMin g.dutyMax }

/-- `pid_reset` (R170). -/
def pidCleared (p : Pid) : Pid :=
  { p with integral := 0#32, lastErr := 0#32, lastOut := 0#32, satMin := false, satMax := false }

/-- The state after an evaluation that gives a duty (R161): the law's registers, the MSTAT bits, and SATc. -/
def evaluated (c : Chan) (target current dt : F32) (s : State) : State :=
  let g := (s.ch c).cfg
  let l := law g (s.ch c).pid target current dt
  let lo := feq l.out g.dutyMin
  let hi := feq l.out g.dutyMax
  let t := s.setCh c { s.ch c with pid :=
    { integral := l.i, lastErr := l.e, lastOut := l.out, satMin := lo, satMax := hi, numFault := false } }
  { t with ctl := { s.ctl with sticky := if lo || hi then stickyOr s (16 + c.index) else s.ctl.sticky } }

/-- The state after an evaluation that faults (R167). -/
def lawFaulted (c : Chan) (s : State) : State :=
  report (.numFault c) c.field
    (s.setCh c { s.ch c with pid := { pidCleared (s.ch c).pid with numFault := true } })

/-! ## binary32 (R13, R14) -/

/-- The encoding without its sign. -/
def magBits (a : F32) : Nat := a.toNat % 2 ^ 31

/-- An encoding of a NaN, an infinity, a finite value (R13). -/
def isNanEnc (a : F32) : Prop := 0x7F800000 < magBits a

/-- An encoding of an infinity. -/
def isInfEnc (a : F32) : Prop := magBits a = 0x7F800000

/-- An encoding of a finite value. -/
def isFiniteEnc (a : F32) : Prop := magBits a < 0x7F800000

/-- The value an encoding stands for: a subnormal's fraction, or a normal's with the hidden bit and its scale. An
infinity's encoding gives 2^128 with its sign, which is beyond every finite value. -/
def exact (a : F32) : ℚ :=
  (if a.getLsbD 31 then -1 else 1) *
  (if magBits a / 2 ^ 23 = 0 then (magBits a : ℚ)
   else ((2 ^ 23 + magBits a % 2 ^ 23 : Nat) : ℚ) * 2 ^ (magBits a / 2 ^ 23 - 1)) / 2 ^ 149

/-- A zero with a sign. -/
def signedZero (neg : Bool) : F32 := if neg then 0x80000000#32 else 0#32

/-- An infinity with a sign. -/
def signedInf (neg : Bool) : F32 := if neg then 0xFF800000#32 else 0x7F800000#32

/-- `r` is the nonzero number `x` rounded to nearest, ties to even, gradually underflowing: from half a unit beyond the
largest finite value on it is an infinity, else no finite value is nearer, and one as near has an odd encoding. -/
def Nearest (x : ℚ) (r : F32) : Prop :=
  (2 ^ 128 - 2 ^ 103 ≤ |x| → r = signedInf (decide (x < 0))) ∧
  (|x| < 2 ^ 128 - 2 ^ 103 →
    isFiniteEnc r ∧ r.getLsbD 31 = decide (x < 0) ∧
    ∀ b, isFiniteEnc b → |exact r - x| ≤ |exact b - x| ∧
      (|exact b - x| = |exact r - x| → exact b = exact r ∨ r.getLsbD 0 = false))

/-- The sign of a product or a quotient. -/
def signXor (a b : F32) : Bool := a.getLsbD 31 ^^ b.getLsbD 31

/-- `fadd` (R14). -/
def AddIsIeee (a b : F32) : Prop :=
  (isNanEnc a ∨ isNanEnc b → isNanEnc (fadd a b)) ∧
  (isInfEnc a → isInfEnc b → if a = b then fadd a b = a else isNanEnc (fadd a b)) ∧
  (isInfEnc a → isFiniteEnc b → fadd a b = a) ∧ (isFiniteEnc a → isInfEnc b → fadd a b = b) ∧
  (isFiniteEnc a → isFiniteEnc b →
    (exact a + exact b ≠ 0 → Nearest (exact a + exact b) (fadd a b)) ∧
    (exact a + exact b = 0 → fadd a b = signedZero (a.getLsbD 31 && b.getLsbD 31)))

/-- `fmul` (R14). -/
def MulIsIeee (a b : F32) : Prop :=
  (isNanEnc a ∨ isNanEnc b → isNanEnc (fmul a b)) ∧
  (isInfEnc a → ¬ isNanEnc b → if exact b = 0 then isNanEnc (fmul a b) else fmul a b = signedInf (signXor a b)) ∧
  (isInfEnc b → ¬ isNanEnc a → if exact a = 0 then isNanEnc (fmul a b) else fmul a b = signedInf (signXor a b)) ∧
  (isFiniteEnc a → isFiniteEnc b →
    (exact a * exact b ≠ 0 → Nearest (exact a * exact b) (fmul a b)) ∧
    (exact a * exact b = 0 → fmul a b = signedZero (signXor a b)))

/-- `fdiv` (R14). -/
def DivIsIeee (a b : F32) : Prop :=
  (isNanEnc a ∨ isNanEnc b → isNanEnc (fdiv a b)) ∧
  (isInfEnc a → isInfEnc b → isNanEnc (fdiv a b)) ∧
  (isInfEnc a → isFiniteEnc b → fdiv a b = signedInf (signXor a b)) ∧
  (isFiniteEnc a → isInfEnc b → fdiv a b = signedZero (signXor a b)) ∧
  (isFiniteEnc a → isFiniteEnc b → exact b = 0 →
    if exact a = 0 then isNanEnc (fdiv a b) else fdiv a b = signedInf (signXor a b)) ∧
  (isFiniteEnc a → isFiniteEnc b → exact b ≠ 0 →
    (exact a ≠ 0 → Nearest (exact a / exact b) (fdiv a b)) ∧
    (exact a = 0 → fdiv a b = signedZero (signXor a b)))

/-- The tests and the comparisons (R14): false on a NaN, the order of the values else. -/
def TestsAreIeee (a b : F32) : Prop :=
  (isnan a = true ↔ isNanEnc a) ∧ (finite a = true ↔ isFiniteEnc a) ∧
  (flt a b = true ↔ ¬ isNanEnc a ∧ ¬ isNanEnc b ∧ exact a < exact b) ∧
  (fgt a b = true ↔ ¬ isNanEnc a ∧ ¬ isNanEnc b ∧ exact b < exact a) ∧
  (feq a b = true ↔ ¬ isNanEnc a ∧ ¬ isNanEnc b ∧ exact a = exact b)

/-! ## Motor loop (R180 to R189) -/

/-- A motor loop with the output zeroed (R187) and the target at +0. -/
def motorStopped (m : Motor) : Motor := { m with target := 0#32, pendDuty := 0#32, pwmCmp := 0#17 }

/-- A channel after a zero target (R180): the encoder is reset when the target was nonzero. -/
def chanStopped (now : Word) (x : Channel) : Channel :=
  { x with
    mot := motorStopped x.mot
    pid := pidCleared x.pid
    enc := if feq x.mot.target 0#32 then x.enc else encCleared now x.enc }

/-- The interval since the last step (R183). -/
def stepEl (c : Chan) (s : State) : Word := s.clk.timeMs - (s.ch c).mot.lastStepMs

/-- The step is not skipped (R183, R184). -/
def stepRuns (c : Chan) (s : State) : Prop :=
  feq (s.ch c).mot.target 0#32 = false ∧ max (s.ch c).cfg.minPeriodMs.toNat 1 ≤ (stepEl c s).toNat

/-- The encoder a step reads (R183). -/
def stepEnc (c : Chan) (s : State) : Enc := refreshed s.clk.timeMs (s.ch c).cfg (s.ch c).enc

/-- The current value a step hands to the law (R185). -/
def stepCurrent (c : Chan) (s : State) : F32 :=
  if (s.ch c).mot.dirNeg then (stepEnc c s).rpm ^^^ 0x80000000#32 else (stepEnc c s).rpm

/-- The step's interval in seconds (R183). -/
def stepSeconds (c : Chan) (s : State) : F32 := fdiv (f32OfInt (stepEl c s).toNat) 0x447A0000#32

/-- The law as a step evaluates it (R183). -/
def stepLaw (c : Chan) (s : State) : Law :=
  law (s.ch c).cfg (s.ch c).pid (s.ch c).mot.target (stepCurrent c s) (stepSeconds c s)

/-- One cycle of a PWM generator (R191). -/
def pwmNext (top : BitVec 16) (m : Motor) : Motor :=
  { m with
    pin := decide (m.pwmCnt < m.pwmCmp.toNat) && !m.brake
    pwmCnt := if m.pwmCnt = top.toNat then 0 else m.pwmCnt + 1
    pwmCmp := if m.pwmCnt = top.toNat then pwmConv m.pendDuty top else m.pwmCmp }

/-! ## Frames (R100 to R108, R200 to R217) -/

/-- CFG.CSUM16 of a message's channel (R101). -/
def csum16 (s : State) (id : Byte) : Bool := if id = 0x01#8 then s.ctl.cfg.getLsbD 0 else s.ctl.cfg.getLsbD 1

/-- The checksum bytes of a message (R101, R201). -/
def sumBytes (wide : Bool) (id : Byte) (p : List Byte) : List Byte :=
  let n := id.toNat + p.length / 256 + p.length % 256 + (p.map BitVec.toNat).sum
  if wide then [BitVec.ofNat 8 (n / 256), BitVec.ofNat 8 n] else [BitVec.ofNat 8 n]

/-- The frame of a message (R100, R200). -/
def frame (wide : Bool) (id : Byte) (p : List Byte) : List Byte :=
  [0xAA#8, 0x55#8, id, BitVec.ofNat 8 (p.length / 256), BitVec.ofNat 8 p.length] ++ p ++ sumBytes wide id p

/-- The bytes of a 32-bit field in the order CFG.PAYLOAD_LE gives (R102, R202). -/
def bytes32 (le : Bool) (w : Word) : List Byte :=
  let b := [w.extractLsb' 24 8, w.extractLsb' 16 8, w.extractLsb' 8 8, w.extractLsb' 0 8]
  if le then b.reverse else b

/-- The bytes of a 16-bit field (R103, R202). -/
def bytes16 (le : Bool) (h : Half) : List Byte :=
  if le then [h.extractLsb' 0 8, h.extractLsb' 8 8] else [h.extractLsb' 8 8, h.extractLsb' 0 8]

/-- The 32-bit field at payload bytes i to i+3 (R108): the bytes put side by side. -/
def field32 (le : Bool) (p : List Byte) (i : Nat) : Word :=
  let b := fun k => p.getD (i + k) 0#8
  if le then b 3 ++ b 2 ++ b 1 ++ b 0 else b 0 ++ b 1 ++ b 2 ++ b 3

/-- The 16-bit field at payload bytes i and i+1 (R108). -/
def field16 (le : Bool) (p : List Byte) (i : Nat) : Half :=
  let b := fun k => p.getD (i + k) 0#8
  if le then b 1 ++ b 0 else b 0 ++ b 1

/-- CFG.PAYLOAD_LE (R24). -/
def le (s : State) : Bool := s.ctl.cfg.getLsbD 2

/-- The stale condition of R149. -/
def isStale (s : State) (c : Chan) : Bool :=
  decide ((s.ch c).cfg.staleMult.toNat * (s.ch c).cfg.windowMs.toNat <
    (s.clk.timeMs - (s.ch c).enc.lastEdgeMs).toNat)

/-- Bit i of the telemetry flags (R104, R205). -/
def flagBit (s : State) (i : Nat) : Bool :=
  match i with
  | 1 => isStale s .c0
  | 2 => isStale s .c1
  | 3 => s.ch0.pid.satMin || s.ch0.pid.satMax
  | 4 => s.ch1.pid.satMin || s.ch1.pid.satMax
  | 5 => s.ch0.pid.numFault
  | 6 => s.ch1.pid.numFault
  | i => s.tlm.flags.getLsbD i

/-- The bits of MSTAT (R56). -/
def mstatBits (s : State) (c : Chan) : List Bool :=
  [(s.ch c).mot.dirNeg, (s.ch c).mot.dirNeg ^^ (s.ch c).cfg.mcfg.getLsbD 0, (s.ch c).mot.brake,
   !feq (s.ch c).mot.target 0#32, isStale s c, (s.ch c).pid.satMin, (s.ch c).pid.satMax, (s.ch c).pid.numFault]

/-- The bits of STATUS (R26): sticky ones as stored, RX_AVAIL, LINK_UP and TX_IDLE as their conditions are now. -/
def statusBits (s : State) : List Bool :=
  (List.range 20).map fun i =>
    if i = 3 then s.codec.rxq != []
    else if i = 11 then s.link.state == .up
    else if i = 19 then s.codec.txq == [] && !s.utx.busy
    else s.ctl.sticky.getLsbD i

/-- What a register computed from several fields, or that is no stored word, reads: CFG (R24), STATUS (R26), ERR_CODE
(R28), FIFO_STAT (R34), LINK_STAT (R36), WIN_COUNT and EDGE_AGE_MS (R55), MSTAT (R56), and the constants of R23 and
R29. -/
def computedRead (s : State) : Reg → Option Word
  | .id => some 0x4D430007#32
  | .cmd => some 0#32
  | .cfg => some (wordOf [s.par.role == .host, s.ctl.cfg.getLsbD 0, s.ctl.cfg.getLsbD 1, s.ctl.cfg.getLsbD 2])
  | .status => some (wordOf (statusBits s))
  | .errCode => some (BitVec.ofNat 32 (s.ctl.errCode.toNat + 256 * s.ctl.errCh.toNat))
  | .fifoStat => some (BitVec.ofNat 32 (s.codec.rxq.length % 16 + 2 ^ 8 * (s.codec.rxbuf.length % 256) +
      2 ^ 16 * (s.codec.txq.length % 512)))
  | .linkStat => some (wordOf [s.link.state == .up, s.utx.busy, s.urx.state == .busy])
  | .chan c .winCount => some (BitVec.ofNat 32 (s.ch c).enc.win.length)
  | .chan c .edgeAgeMs => some (s.clk.timeMs - (s.ch c).enc.lastEdgeMs)
  | .chan c .mstat => some (wordOf (mstatBits s c))
  | _ => none

/-- The stored words of the global, link and heartbeat registers (R25 to R43), each beside its register. -/
def storedGlobal (s : State) : List (Reg × Word) :=
  [(.irqEn, s.ctl.irqEn.setWidth 32), (.timeMs, s.clk.timeMs), (.arg0, s.ctl.arg0), (.arg1, s.ctl.arg1),
   (.arg2, s.ctl.arg2), (.result, s.ctl.result), (.pwmTop, s.ctl.pwmTop.setWidth 32),
   (.baudDiv, s.ctl.baudDiv.setWidth 32), (.rxOkCnt, s.cnt.rxOk), (.rxCsumErrCnt, s.cnt.rxCsumErr),
   (.rxLenErrCnt, s.cnt.rxLenErr), (.rxIdErrCnt, s.cnt.rxIdErr), (.rxFerrCnt, s.cnt.rxFerr),
   (.rxDiscardCnt, s.cnt.rxDiscard), (.txFrameCnt, s.cnt.txFrame), (.backoffMs, s.link.backoffMs),
   (.downSinceMs, s.link.downSinceMs), (.heartbeatMs, s.hb.heartbeatMs), (.vmax, s.hb.vmax), (.wmax, s.hb.wmax),
   (.eps, s.hb.eps), (.cmdInV, s.hb.cmdInV), (.cmdInW, s.hb.cmdInW), (.lastSentV, s.hb.lastSentV),
   (.lastSentW, s.hb.lastSentW), (.lastSendMs, s.hb.lastSendMs)]

/-- The stored words of the payload registers (R44 to R46), each beside its register. -/
def storedPayload (s : State) : List (Reg × Word) :=
  [(.rxV, s.vel.v), (.rxW, s.vel.w), (.rxSeq, s.vel.seq), (.tlmBatt, s.tlm.batt), (.tlmAx, s.tlm.ax),
   (.tlmAy, s.tlm.ay), (.tlmAz, s.tlm.az), (.tlmGx, s.tlm.gx), (.tlmGy, s.tlm.gy), (.tlmGz, s.tlm.gz),
   (.tlmFlags, s.tlm.flags.setWidth 32), (.hRpmL, s.lat.rpmL), (.hRpmR, s.lat.rpmR), (.hBatt, s.lat.batt),
   (.hAx, s.lat.ax), (.hAy, s.lat.ay), (.hAz, s.lat.az), (.hGx, s.lat.gx), (.hGy, s.lat.gy), (.hGz, s.lat.gz),
   (.hEchoV, s.lat.echoV), (.hEchoW, s.lat.echoW), (.hFlags, s.lat.flags.setWidth 32), (.tlmSeq, s.lat.seq)]

/-- The stored words of a channel's registers (R48 to R57), each beside its register. -/
def storedChan (x : Channel) : List (ChReg × Word) :=
  [(.mcfg, x.cfg.mcfg.setWidth 32), (.kp, x.cfg.kp), (.ki, x.cfg.ki), (.kd, x.cfg.kd), (.kff, x.cfg.kff),
   (.ffOffset, x.cfg.ffOffset), (.slewMax, x.cfg.slewMax), (.dutyMin, x.cfg.dutyMin), (.dutyMax, x.cfg.dutyMax),
   (.iLimit, x.cfg.iLimit), (.iErrBound, x.cfg.iErrBound), (.minPeriodMs, x.cfg.minPeriodMs), (.tpr, x.cfg.tpr),
   (.windowMs, x.cfg.windowMs), (.minIntervalMs, x.cfg.minIntervalMs), (.staleMult, x.cfg.staleMult),
   (.target, x.mot.target), (.measRpm, x.enc.rpm), (.lastErr, x.pid.lastErr), (.integral, x.pid.integral),
   (.lastOut, x.pid.lastOut), (.ticks, x.enc.count), (.lastDtMs, x.mot.lastDtMs),
   (.pwmCmp, x.mot.pwmCmp.setWidth 32), (.lastStepMs, x.mot.lastStepMs), (.lastUpdMs, x.enc.lastUpdMs),
   (.lastEdgeMs, x.enc.lastEdgeMs)]

/-- The telemetry payload with the flags word `fl` (R103, R204). -/
def tlmBytes (s : State) (fl : Half) : List Byte :=
  ([s.ch0.enc.rpm, s.ch1.enc.rpm, s.tlm.batt, s.tlm.ax, s.tlm.ay, s.tlm.az, s.tlm.gx, s.tlm.gy, s.tlm.gz,
    s.vel.v, s.vel.w].map (bytes32 (le s))).flatten ++ bytes16 (le s) fl

/-- A frame fits in the transmit FIFO (R206). -/
def fits (s : State) (f : List Byte) : Prop := s.codec.txq.length + f.length ≤ 256

/-- A frame is queued (R206). -/
def queued (f : List Byte) (s : State) : State :=
  { s with
    codec := { s.codec with txq := s.codec.txq ++ f }
    cnt := { s.cnt with txFrame := s.cnt.txFrame + 1#32 } }

/-- What `enqueue` does with a frame and with RESULT in TX_CMD_FRAME and TX_TLM_FRAME (R206, R207, R214). -/
def sendOutcome (f : List Byte) (s t : State) : Prop :=
  (s.link.state = .up → fits s f → t = result 1#32 (queued f s)) ∧
  (s.link.state = .up → ¬ fits s f → t = result 0#32 (report .txFifoOverflow 0#4 s)) ∧
  (s.link.state = .down → t = result 0#32 s)

/-- The telemetry latch after a pop (R46, R217). -/
def latched (s : State) (p : List Byte) : TlmLatch :=
  { rpmL := field32 (le s) p 0, rpmR := field32 (le s) p 4, batt := field32 (le s) p 8, ax := field32 (le s) p 12,
    ay := field32 (le s) p 16, az := field32 (le s) p 20, gx := field32 (le s) p 24, gy := field32 (le s) p 28,
    gz := field32 (le s) p 32, echoV := field32 (le s) p 36, echoW := field32 (le s) p 40,
    flags := field16 (le s) p 44, seq := s.lat.seq + 1#32 }

/-- An accepted frame (R211): counted, and queued or dropped with 0x14. -/
def accepted (f : Frame) (s : State) : State :=
  let t := { s with cnt := { s.cnt with rxOk := s.cnt.rxOk + 1#32 } }
  if s.codec.rxq.length = 4 then report .rxFifoOverflow 0#4 t
  else { t with codec := { s.codec with rxq := s.codec.rxq ++ [f] } }

/-- `5 + RXLEN + RXCW` (R209, R212). -/
def rxFrameLength (s : State) : Nat :=
  match s.par.role with
  | .controller => 13 + (if s.ctl.cfg.getLsbD 0 then 2 else 1)
  | .host => 51 + (if s.ctl.cfg.getLsbD 1 then 2 else 1)

/-- The header the role accepts (R105). -/
def rxHeader : Role → List Byte
  | .controller => [0xAA#8, 0x55#8, 0x01#8, 0x00#8, 0x08#8]
  | .host => [0xAA#8, 0x55#8, 0x02#8, 0x00#8, 0x2E#8]

/-- The MSG_ID the role receives, `RXID` (R105). -/
def headerId : Role → Byte
  | .controller => 0x01#8
  | .host => 0x02#8

/-- The payload length of that message, `RXLEN` (R105). -/
def headerLen : Role → Nat
  | .controller => 8
  | .host => 46

/-- A start pair stands at byte i (R209 part 1). -/
def pairAt (buf : List Byte) (i : Nat) : Prop := buf[i]? = some 0xAA#8 ∧ buf[i + 1]? = some 0x55#8

/-- `drop(k)` (R209). -/
def dropped (k : Nat) (s : State) : State :=
  { s with
    codec := { s.codec with rxbuf := s.codec.rxbuf.drop k }
    cnt := { s.cnt with rxDiscard := s.cnt.rxDiscard + BitVec.ofNat 32 k } }

/-- The LEN field of a buffered header. -/
def lenField (buf : List Byte) : Nat := (buf.getD 3 0#8).toNat * 256 + (buf.getD 4 0#8).toNat

/-- The payload of a buffered frame of the role. -/
def payloadOf (s : State) : List Byte := (s.codec.rxbuf.drop 5).take (headerLen s.par.role)

/-- The checksum bytes of a buffered frame of the role. -/
def sumOf (s : State) : List Byte := (s.codec.rxbuf.take (rxFrameLength s)).drop (5 + headerLen s.par.role)

/-- The checksum bytes that payload asks for (R101, R201). -/
def rightSum (s : State) : List Byte :=
  sumBytes (csum16 s (headerId s.par.role)) (headerId s.par.role) (payloadOf s)

/-- A header the role accepts stands at the front of the buffer (R210). -/
def headerOk (s : State) : Prop :=
  pairAt s.codec.rxbuf 0 ∧ 5 ≤ s.codec.rxbuf.length ∧ s.codec.rxbuf.getD 2 0#8 = headerId s.par.role ∧
  lenField s.codec.rxbuf = headerLen s.par.role

/-- `decode()` takes the first state to the second: one constructor for each way an iteration of R209's loop goes. -/
inductive Scans : State → State → Prop where
  /-- No start pair: everything goes but a trailing 0xAA. -/
  | noPair (s : State) : (∀ i, ¬ pairAt s.codec.rxbuf i) →
      Scans s (dropped (if s.codec.rxbuf.getLast? = some 0xAA#8 then s.codec.rxbuf.length - 1
        else s.codec.rxbuf.length) s)
  /-- Bytes before the first start pair go. -/
  | garbage (s t : State) (i : Nat) : 0 < i → pairAt s.codec.rxbuf i → (∀ j, j < i → ¬ pairAt s.codec.rxbuf j) →
      Scans (dropped i s) t → Scans s t
  /-- Part of a header waits. -/
  | shortHeader (s : State) : pairAt s.codec.rxbuf 0 → s.codec.rxbuf.length < 5 → Scans s s
  /-- A header of another MSG_ID: 0x12, counted, one byte goes (R210). -/
  | unknownId (s t : State) : pairAt s.codec.rxbuf 0 → 5 ≤ s.codec.rxbuf.length →
      s.codec.rxbuf.getD 2 0#8 ≠ headerId s.par.role →
      Scans (dropped 1 (report .rxUnknownId 0#4 { s with cnt := { s.cnt with rxIdErr := s.cnt.rxIdErr + 1#32 } })) t →
      Scans s t
  /-- A header with the wrong LEN: 0x11, counted, one byte goes (R210). -/
  | badLength (s t : State) : pairAt s.codec.rxbuf 0 → 5 ≤ s.codec.rxbuf.length →
      s.codec.rxbuf.getD 2 0#8 = headerId s.par.role → lenField s.codec.rxbuf ≠ headerLen s.par.role →
      Scans (dropped 1 (report .rxLength 0#4 { s with cnt := { s.cnt with rxLenErr := s.cnt.rxLenErr + 1#32 } })) t →
      Scans s t
  /-- Part of a frame waits. -/
  | shortBody (s : State) : headerOk s → s.codec.rxbuf.length < rxFrameLength s → Scans s s
  /-- A wrong checksum: 0x10, counted, one byte goes (C4). -/
  | badSum (s t : State) : headerOk s → rxFrameLength s ≤ s.codec.rxbuf.length → sumOf s ≠ rightSum s →
      Scans (dropped 1 (report .rxChecksum 0#4 { s with cnt := { s.cnt with rxCsumErr := s.cnt.rxCsumErr + 1#32 } })) t →
      Scans s t
  /-- A valid frame is accepted and its bytes go, not counted as discarded (R211). -/
  | valid (s t : State) : headerOk s → rxFrameLength s ≤ s.codec.rxbuf.length → sumOf s = rightSum s →
      Scans (accepted { id := headerId s.par.role, payload := payloadOf s }
        { s with codec := { s.codec with rxbuf := s.codec.rxbuf.drop (rxFrameLength s) } }) t →
      Scans s t

/-- Bytes arrive one after the other (R208). -/
def arrive (bs : List Byte) (s : State) : State := bs.foldl (fun x b => deliver b x) s

/-! ## The serial line (R231, R232) -/

/-- The level of bit time n of a byte: the start bit, the data bits from bit 0 up, the stop bit. -/
def lineBit (b : Byte) (n : Nat) : Bool := n != 0 && (decide (9 ≤ n) || b.getLsbD (n - 1))

/-- A busy transmitter after one cycle (R233): it drives its bit, and after DIV cycles of it moves to the next one, or is
idle after the stop bit. -/
def bitSent (u : UartTx) : UartTx :=
  if u.cnt + 1 = u.div then
    { u with pin := lineBit u.byte u.idx, cnt := 0, idx := u.idx + 1, busy := u.idx + 1 != 10 }
  else { u with pin := lineBit u.byte u.idx, cnt := u.cnt + 1 }

/-- One receiver cycle with the synchronised line at this level. -/
def rxTick (s : State) (level : Bool) : State := rxCycle { s with urx := { s.urx with sync2 := level } }

/-! ## The heartbeat (R245 to R249) -/

/-- A CMD_IN value as it is sent (R247): non-finite becomes +0, then the clamp. -/
def safeValue (x limit : F32) : F32 := fclamp (if finite x then x else 0#32) (fneg limit) limit

/-- The linear value LINK_STEP sends. -/
def sentV (s : State) : F32 := safeValue s.hb.cmdInV s.hb.vmax

/-- The angular value LINK_STEP sends. -/
def sentW (s : State) : F32 := safeValue s.hb.cmdInW s.hb.wmax

/-- `send_due` while the link is up (R245, R246). -/
def wantsSend (s : State) : Prop :=
  s.link.state = .up ∧
  (s.link.sentSinceUp = false ∨ fgt (fabs (fsub (sentV s) s.hb.lastSentV)) s.hb.eps = true ∨
    fgt (fabs (fsub (sentW s) s.hb.lastSentW)) s.hb.eps = true ∨
    s.hb.heartbeatMs.toNat ≤ (s.clk.timeMs - s.hb.lastSendMs).toNat)

/-- LINK_STEP's frame (R245). -/
def heartbeatBytes (s : State) : List Byte :=
  frame (csum16 s 0x01#8) 0x01#8 (bytes32 (le s) (sentV s) ++ bytes32 (le s) (sentW s))

/-- LINK_STEP's report of non-finite inputs (R247). -/
def inputReported (s : State) : State :=
  if finite s.hb.cmdInV && finite s.hb.cmdInW then s else report .cmdInNonfinite 0#4 s

/-- LINK_STEP's send with the frame queued (R245). -/
def heartbeatSent (s : State) : State :=
  let t := queued (heartbeatBytes s) (inputReported s)
  { t with
    hb := { s.hb with lastSentV := sentV s, lastSentW := sentW s, lastSendMs := s.clk.timeMs }
    link := { s.link with sentSinceUp := true } }

/-- LINK_STEP's last part (R248, R249): pop one frame if there is one, and RESULT. -/
def telemetryTaken (sent : Nat) (s : State) : State :=
  match s.codec.rxq with
  | [] => result (BitVec.ofNat 32 sent) s
  | f :: q =>
    result (BitVec.ofNat 32 (sent + 2)) { s with codec := { s.codec with rxq := q }, lat := latched s f.payload }

/-! ## Phases (R80) -/

/-- The agent after this one in a clock cycle. -/
def nextPhase : Phase → Phase
  | .inputs => .time
  | .time => .link
  | .link => .enc
  | .enc => .rx
  | .rx => .tx
  | .tx => .pwm
  | .pwm => .bus
  | .bus => .stale
  | .stale => .inputs

/-- The inputs of the cycle that begins now: the first listed ones, or held pins and no access. -/
def cycleInputs (s : State) : CycleIn :=
  match s.env with
  | [] => { pins := s.pins, bus := none, rxb := [] }
  | i :: _ => i

/-- An encoder's synchronisers at a clock edge (R147): `a` and `b` are the levels of the cycle that ends. -/
def syncEnc (a b : Bool) (e : Enc) : Enc :=
  { e with
    aSync1 := a, aSync2 := e.aSync1, aOld1 := e.aSync2, aOld2 := e.aOld1
    bSync1 := b, bSync2 := e.bSync1, bOld1 := e.bSync2, bOld2 := e.bOld1, bOld3 := e.bOld2 }

/-- An encoder in power-on reset (R280): reset values, the synchronisers still shifting, `a_seen` the synchronised A. -/
def encInReset (a b : Bool) (e : Enc) : Enc :=
  { syncEnc a b e with
    count := 0#32, prev := 0#32, win := [], rpm := 0#32, lastUpdMs := 0#32, lastEdgeMs := 0#32, aSeen := e.aSync1 }

/-- The receiver's synchroniser at a clock edge (R234). -/
def syncUart (level : Bool) (u : UartRx) : UartRx := { u with sync1 := level, sync2 := u.sync1 }

/-- The block in power-on reset in the cycle that begins now (R280). -/
def inPowerOn (s : State) : State :=
  { State.powerOn s.par (cycleInputs s).pins with
    urx := { UartRx.atReset false with sync1 := s.pins.uartRx, sync2 := s.urx.sync1 }
    ch0 := { Channel.atReset 0#32 false false with enc := encInReset s.pins.encA0 s.pins.encB0 s.ch0.enc }
    ch1 := { Channel.atReset 0#32 false false with enc := encInReset s.pins.encA1 s.pins.encB1 s.ch1.enc }
    env := s.env.tail
    freeCtr := s.freeCtr }

/-- The cycle that begins now is in power-on reset or the first one after it (R280). -/
def inReset (s : State) : Prop :=
  s.phase = .inputs ∧ (s.nextIn.pins.rstN = false ∨ s.pins.rstN = false)

end Sys2Proof.Spec

section

open Sys2Proof Sys2Proof.Machine Sys2Proof.Spec

/-! # Encoding -/

/-- R90, R91, R100 to R103: the encoding of every well-formed instruction decodes to it, every operand at every value;
a frame's checksum field has its channel's width. -/
def Obligations.DecodeInvertsEncode : Prop :=
  ∀ (cwCmd cwTlm : SumWidth) (i : Instr), i.wellFormed = true → sumFits cwCmd cwTlm i →
    decode cwCmd cwTlm (encode i) = some i

/-- R90, R92, R93, R100, R105: what decodes is well formed and has no other encoding. A command's word and a frame's
bytes are those the encoder gives. -/
def Obligations.DecodedIsTheEncoding : Prop :=
  (∀ (w : Word) (i : Instr), decodeCmd w = .ok i → encode i = .command w ∧ i.wellFormed = true) ∧
  (∀ (cwCmd cwTlm : SumWidth) (bs rest : List Byte) (i : Instr), decodeFrame cwCmd cwTlm bs = .ok (i, rest) →
    sumFits cwCmd cwTlm i ∧ ∃ f, encode i = .frame f ∧ bs = f ++ rest)

/-- R91, R92 and the vectors DSP-1 to DSP-9, EX-1: words and bytes written out from the spec. -/
def Obligations.SpecWordsDecode : Prop :=
  decodeCmd 0x00000000#32 = .ok .nop ∧ decodeCmd 0x00000101#32 = .ok (.setTarget 1#4) ∧
  decodeCmd 0x00000002#32 = .ok (.step 0#4) ∧ decodeCmd 0x00000105#32 = .ok (.pidCompute 1#4) ∧
  decodeCmd 0x00000006#32 = .ok (.encUpdate 0#4) ∧ decodeCmd 0x00000010#32 = .ok .txCmdFrame ∧
  decodeCmd 0x00000020#32 = .ok .linkStep ∧ decodeCmd 0x0000007F#32 = .ok .softReset ∧
  decodeCmd 0x00001208#32 = .error .reservedBits ∧ decodeCmd 0x00000208#32 = .error .unknownOp ∧
  decodeFrame .one .one
      [0xAA#8, 0x55#8, 0x01#8, 0x00#8, 0x08#8, 0x3F#8, 0x9D#8, 0x70#8, 0xA4#8, 0xBE#8, 0xE6#8, 0x66#8, 0x66#8, 0x69#8]
    = .ok (.velCmd { linear := 0x3F9D70A4#32, angular := 0xBEE66666#32 } (.sum8 0x69#8), [])

/-- R29, R120, R208: a step runs the instruction that the word written to CMD decodes to, in the state with the access
taken, and the frame that the arriving bytes begin with, in the state with its bytes taken; a command word placed by
withFetchWord is run by the next step (log 16). -/
def Obligations.StepRunsTheDecodedInstruction : Prop :=
  (∀ (s : State) (addr w : Word) (i : Instr), onBus s (wr addr w) → offset addr = 0x018 → decodeCmd w = .ok i →
    step s = exec i (done s)) ∧
  (∀ (s : State) (i : Instr) (after : List Byte), s.phase = .rx →
    decodeFrame (sumWidth (s.ctl.cfg.getLsbD 0)) (sumWidth (s.ctl.cfg.getLsbD 1)) s.rxb = .ok (i, after) →
    step s = exec i { s with rxb := after }) ∧
  (∀ (s : State) (w : Word) (i : Instr), decodeCmd w = .ok i → step (s.withFetchWord 32 w.toNat) = exec i (done s))

/-- R92 items 1 to 4, R263: a word written to CMD that fails a check has no effect but the report of the first failing
one, with channel 0; a word that fails none is a well-formed instruction, which the step runs. -/
def Obligations.FirstFailingCheckIsReported : Prop :=
  ∀ (s : State) (addr w : Word), onBus s (wr addr w) → offset addr = 0x018 →
    (∀ e, firstFailing s.par.role w = some e → step s = .next (report e 0#4 (done s))) ∧
    (firstFailing s.par.role w = none → ∃ i, decodeCmd w = .ok i ∧ i.wellFormed = true ∧ step s = exec i (done s))

/-! # Registers and the bus -/

/-- R22, R47, R70, R77, R121: a read returns the register that the address map puts at the offset, bits 1:0 ignored,
changes nothing else, and returns 0 at unlisted offsets, for registers of absent units and for CMD; and every register
of R23 to R57 reads the state its rule names, in every state. -/
def Obligations.ReadsHaveNoSideEffect : Prop :=
  ∀ (s : State) (addr : Word), onBus s (.read addr) →
    step s = .next { done s with rdata := busRead addr s } ∧
    (∀ a : Word, offset a = offset addr → busRead a s = busRead addr s) ∧
    (∀ r, regAt addr = some r → r.present s.par.role = true → busRead addr s = readReg r s) ∧
    (∀ r, regAt addr = some r → r.present s.par.role = false → busRead addr s = 0#32) ∧
    (regAt addr = none → busRead addr s = 0#32) ∧ (offset addr = 0x018 → busRead addr s = 0#32) ∧
    (∀ r, regAt addr = some r ↔ offset addr = regOffset r) ∧
    (∀ r role, r.present role = true ↔ onlyRole r = none ∨ onlyRole r = some role) ∧
    (∀ r v, computedRead s r = some v → readReg r s = v) ∧
    (∀ e ∈ storedGlobal s ++ storedPayload s, readReg e.1 s = e.2) ∧
    (∀ c, ∀ e ∈ storedChan (s.ch c), readReg (.chan c e.1) s = e.2)

/-- R20, R24 to R53, R121, R122: an accepted write of a RW register reads back with its reserved bits 0 (CFG.ROLE stays),
no other register reads differently but those R149, R191 and R192 name, and nothing else of the block moves, hidden
state included (a PWM_TOP write restarts the periods, which PwmGenerator states). -/
def Obligations.WritesReadBack : Prop :=
  ∀ (s : State) (addr v m : Word) (r : Reg), onBus s (wr addr v) → regAt addr = some r →
    r.present s.par.role = true → rwMask r = some m → rejects r v s = false →
    ∃ t, step s = .next t ∧
      readReg r t = (v &&& m) ||| (if r = .cfg then readReg .cfg s &&& 1#32 else 0#32) ∧
      (∀ q, q ≠ r → q ∉ alsoReads r → readReg q t = readReg q s) ∧
      t.codec = s.codec ∧ t.utx = s.utx ∧ t.urx = s.urx ∧ t.par = s.par ∧ t.clk = s.clk ∧ t.pins = s.pins ∧
      t.link.state = s.link.state ∧ t.link.sentSinceUp = s.link.sentSinceUp ∧ t.ctl.sticky = s.ctl.sticky ∧
      t.bus = none ∧ t.rxb = s.rxb ∧ t.env = s.env ∧ t.rdata = s.rdata ∧ t.phase = .stale ∧ t.freeCtr = s.freeCtr ∧
      (∀ c, (t.ch c).enc = (s.ch c).enc ∧ (t.ch c).pid = (s.ch c).pid ∧
        (r ≠ .pwmTop → (t.ch c).mot = (s.ch c).mot))

/-- R122: a write that fails its register's legality condition changes nothing but the report 0x07. -/
def Obligations.IllegalWritesAreRejected : Prop :=
  ∀ (s : State) (addr v : Word) (r : Reg), onBus s (wr addr v) → regAt addr = some r →
    r.present s.par.role = true → rejects r v s = true → step s = .next (report .cfgReject 0#4 (done s))

/-- R22, R70, R80, R122: a write with a byte enable clear, of an unlisted offset, of a register of an absent unit or of a
read-only register does nothing and reports nothing; nor does the bus in a cycle without an access. -/
def Obligations.IgnoredWrites : Prop :=
  (∀ s : State, s.phase = .bus → s.bus = none → step s = .next (done s)) ∧
  ∀ (s : State) (addr v : Word) (enables : BitVec 4), onBus s (.write addr enables v) →
    (enables ≠ 0xF#4 ∨ regAt addr = none ∨ ∃ r, regAt addr = some r ∧ ignoresWrites r s.par.role) →
    step s = .next (done s)

/-- R26, R28, R83, R265: a write of STATUS clears exactly the sticky bits written as 1 and leaves the live bits 3, 11 and
19; a write of ERR_CODE clears it whatever is written; nothing else changes. -/
def Obligations.ClearingWrites : Prop :=
  (∀ (s : State) (addr v : Word), onBus s (wr addr v) → offset addr = 0x008 →
    ∃ t, step s = .next t ∧ t = { done s with ctl := { s.ctl with sticky := t.ctl.sticky } } ∧
      ∀ i, (readReg .status t).getLsbD i =
        ((readReg .status s).getLsbD i && (i == 3 || i == 11 || i == 19 || !v.getLsbD i))) ∧
  (∀ (s : State) (addr v : Word), onBus s (wr addr v) → offset addr = 0x010 →
    ∃ t, step s = .next t ∧ t = { done s with ctl := { s.ctl with errCode := 0#8, errCh := 0#4 } } ∧
      readReg .errCode t = 0#32)

/-! # Reset -/

/-- R64, R65, R147, R234, R243, R280, R282 and vectors RST-1, LNK-5: what every offset reads right after power-on reset, in
either role and with any pin levels, and the output pins; a cycle that begins with `rst_n` 0 leaves the block in that
state with the synchronisers shifting, the first one with `rst_n` 1 goes on from it, and any other takes its inputs and
shifts the synchronisers. The drop of the access and of the bytes in reset and the zeros in the UART's
working registers are the model's choices (logs 14, 25). -/
def Obligations.PowerOnReads : Prop :=
  (∀ s : State, s.phase = .inputs → (cycleInputs s).pins.rstN = false →
    step s = .next { inPowerOn s with phase := .inputs }) ∧
  (∀ s : State, s.phase = .inputs → (cycleInputs s).pins.rstN = true → s.pins.rstN = false →
    step s = .next { inPowerOn s with bus := (cycleInputs s).bus, rxb := (cycleInputs s).rxb, phase := .time }) ∧
  (∀ s : State, s.phase = .inputs → (cycleInputs s).pins.rstN = true → s.pins.rstN = true →
    step s = .next { s with
      pins := (cycleInputs s).pins, bus := (cycleInputs s).bus, rxb := (cycleInputs s).rxb, env := s.env.tail
      urx := syncUart s.pins.uartRx s.urx
      ch0 := { s.ch0 with enc := syncEnc s.pins.encA0 s.pins.encB0 s.ch0.enc }
      ch1 := { s.ch1 with enc := syncEnc s.pins.encA1 s.pins.encB1 s.ch1.enc }
      phase := .time }) ∧
  ∀ (par : Params) (pins : Pins),
    (∀ addr, busRead addr (State.powerOn par pins) = resetWord par.role pins.ioFault (offset addr)) ∧
    (∀ c, ((State.powerOn par pins).ch c).mot.pin = false ∧ (State.powerOn par pins).dirPin c = false ∧
      (State.powerOn par pins).brakePin c = false) ∧
    (State.powerOn par pins).utx.pin = true ∧ (State.powerOn par pins).irq = false

/-- R126, R243, R281, R283: SOFT_RESET leaves the power-on state but for TIME_MS, the timestamps, the synchronisers and
`a_seen`; the link takes the state its attempt gives. The pins' levels and the model's own fields stay (log 15), and
the UART's working registers become 0 (log 25, the model's choice). -/
def Obligations.SoftResetResult : Prop :=
  ∀ s : State, exec .softReset s = .next
    { State.powerOn s.par s.pins with
      clk := s.clk
      link := { state := if s.pins.ioFault then .down else .up, backoffMs := 1000#32, downSinceMs := s.clk.timeMs,
                sentSinceUp := false }
      urx := { (UartRx.atReset false) with sync1 := s.urx.sync1, sync2 := s.urx.sync2 }
      ch0 := { (Channel.atReset s.clk.timeMs false false) with
        enc := { encCleared s.clk.timeMs s.ch0.enc with lastEdgeMs := s.clk.timeMs, aSeen := s.ch0.enc.aSync2 } }
      ch1 := { (Channel.atReset s.clk.timeMs false false) with
        enc := { encCleared s.clk.timeMs s.ch1.enc with lastEdgeMs := s.clk.timeMs, aSeen := s.ch1.enc.aSync2 } }
      bus := s.bus, rxb := s.rxb, env := s.env, rdata := s.rdata, phase := s.phase, freeCtr := s.freeCtr }

/-! # Errors and the interrupt -/

/-- R262 with the table of R261: ERR_CODE reads the code and the channel, the code's STATUS bit reads 1, and nothing
else changes. -/
def Obligations.RaiseErrorEffect : Prop :=
  ∀ (e : ErrKind) (ch : BitVec 4) (s : State),
    raiseError e ch s = report e ch s ∧
    readReg .errCode (raiseError e ch s) = (errRow e).1.setWidth 32 ||| (ch.setWidth 32 <<< 8) ∧
    (readReg .status (raiseError e ch s)).getLsbD (errRow e).2 = true

/-- R260: no step halts the block. -/
def Obligations.NoStepStops : Prop := ∀ s : State, ∃ t, step s = .next t

/-- R266: `irq` is the OR over the bits of STATUS and IRQ_EN as they read now, live bits included. -/
def Obligations.IrqIsEnabledStatus : Prop :=
  ∀ s : State, s.irq = true ↔
    ∃ i, (readReg .status s).getLsbD i = true ∧ (readReg .irqEn s).getLsbD i = true

/-- R26, R83, R264, R265, R281: a sticky STATUS bit once set stays set over every step, but a write of STATUS with that
bit 1, a SOFT_RESET command and power-on reset. -/
def Obligations.StickyBitsStaySet : Prop :=
  ∀ (s t : State) (i : Nat), step s = .next t → s.ctl.sticky.getLsbD i = true → t.ctl.sticky.getLsbD i = false →
    inReset s ∨
    (∃ addr v, onBus s (wr addr v) ∧
      ((offset addr = 0x008 ∧ v.getLsbD i = true) ∨ (offset addr = 0x018 ∧ v = 0x7F#32)))

/-! # The clock and the agents -/

/-- R124: NOP changes nothing. -/
def Obligations.NopChangesNothing : Prop := ∀ s : State, exec .nop s = .next s

/-- R25, R80, R242, R271, R280, R281, R283: in the clock's own phase nothing but the clock moves. When P_MS_DIV cycles are
full TIME_MS moves by one, the count of cycles begins again, and the cycle is marked as one in which TIME_MS has just
moved, which R242 reads; else the cycle is counted and not marked (log 8 places the increment). Power-on reset clears all
three, and no other step, SOFT_RESET among them, changes any of them. -/
def Obligations.OnlyTheClockMovesTime : Prop :=
  (∀ s : State, s.phase = .time → s.par.msDiv ≤ s.clk.msCnt →
    step s = .next { s with clk := { timeMs := s.clk.timeMs + 1#32, msCnt := 1, msTick := true }, phase := .link }) ∧
  (∀ s : State, s.phase = .time → s.clk.msCnt < s.par.msDiv →
    step s = .next { s with
      clk := { timeMs := s.clk.timeMs, msCnt := s.clk.msCnt + 1, msTick := false }, phase := .link }) ∧
  ∀ s t : State, step s = .next t →
    (inReset s → t.clk = { timeMs := 0#32, msCnt := 0, msTick := false }) ∧
    (¬ inReset s → s.phase ≠ .time → t.clk = s.clk)

/-- R25, R280: from reset, after the clock's phase of n cycles TIME_MS has moved by floor((n - 1) / P_MS_DIV). The model
shows an increment in the cycle after cycle P_MS_DIV - 1 (log 8). The clock's phase is the step of the phase `time`. -/
def Obligations.TimeAdvancesEveryMsDivCycles : Prop :=
  (∀ s : State, s.phase = .time → step s = .next (timePhase s)) ∧
  ∀ (s : State) (n : Nat), 0 < s.par.msDiv → s.clk.msCnt = 0 →
    (timePhase^[n] s).clk.timeMs = s.clk.timeMs + BitVec.ofNat 32 ((n - 1) / s.par.msDiv)

/-- R80, R9: the agents move in the order of R80, the receiver once more for each byte or frame that arrives at the byte level
(log 6), a cycle in power-on reset having one phase (log 14); the parameters never change. -/
def Obligations.AgentsMoveInOrder : Prop :=
  ∀ s t : State, step s = .next t →
    t.par = s.par ∧
    t.phase = (if s.phase = .inputs ∧ s.nextIn.pins.rstN = false then .inputs
               else if s.phase = .rx ∧ s.rxb ≠ [] then .rx else nextPhase s.phase)

/-! # Encoder -/

/-- R141, R147, R294: in the encoders' phase an edge of A whose pins kept the input requirement counts one tick, up when A
equals B after it (ENC_POL inverts), and stamps LAST_EDGE_MS; an edge that broke it counts up, down or not at all, a
free value (log 9); no edge changes nothing; and nothing but the encoders moves. At HOST the phase does nothing. -/
def Obligations.EdgesCountTicks : Prop :=
  (∀ s : State, s.phase = .enc → s.par.role = .host → step s = .next { s with phase := .rx }) ∧
  ∀ s : State, s.phase = .enc → s.par.role = .controller →
    ∃ t, step s = .next t ∧
      t = { s with ch0 := t.ch0, ch1 := t.ch1, freeCtr := t.freeCtr, phase := .rx } ∧
      ∀ c, t.ch c = { s.ch c with enc := (t.ch c).enc } ∧
        ((s.ch c).enc.aSync2 = (s.ch c).enc.aSeen → (t.ch c).enc = (s.ch c).enc) ∧
        ((s.ch c).enc.aSync2 ≠ (s.ch c).enc.aSeen → cleanEdge (s.ch c).enc →
          (t.ch c).enc = ticked s.clk.timeMs
            (((s.ch c).enc.aSync2 == (s.ch c).enc.bSync2) ^^ (s.ch c).cfg.mcfg.getLsbD 1) (s.ch c).enc) ∧
        ((s.ch c).enc.aSync2 ≠ (s.ch c).enc.aSeen → ¬ cleanEdge (s.ch c).enc →
          (t.ch c).enc = ticked s.clk.timeMs true (s.ch c).enc ∨
          (t.ch c).enc = ticked s.clk.timeMs false (s.ch c).enc ∨
          (t.ch c).enc = { (s.ch c).enc with aSeen := (s.ch c).enc.aSync2 })

/-- R145, R146: ENC_RESET clears the count, the window and the cached RPM and restarts the interval; LAST_EDGE_MS, RESULT
and everything else stay; its word is 0x0000_0c07. -/
def Obligations.EncResetResult : Prop :=
  ∀ (s : State) (c : Chan), s.par.role = .controller →
    encode (.encReset c.field) = .command (BitVec.ofNat 32 (c.index * 256 + 0x07)) ∧
    exec (.encReset c.field) s = .next (s.setCh c { s.ch c with enc := encCleared s.clk.timeMs (s.ch c).enc })

/-- R142, R143, R144: ENC_UPDATE takes a sample when MIN_INTERVAL_MS has passed and returns the RPM of the window, and
else returns the cached RPM and changes only RESULT. -/
def Obligations.EncUpdateResult : Prop :=
  ∀ (s : State) (c : Chan), s.par.role = .controller →
    exec (.encUpdate c.field) s = .next
      (result (refreshed s.clk.timeMs (s.ch c).cfg (s.ch c).enc).rpm
        (s.setCh c { s.ch c with enc := refreshed s.clk.timeMs (s.ch c).cfg (s.ch c).enc }))

/-- R143, R151: after a sample the window ends with it, holds between 1 and 32 samples, is what is left of the old window
in its order, and begins with a sample no older than WINDOW_MS; samples that were all older are all gone. -/
def Obligations.WindowIsMaintained : Prop :=
  ∀ (now : Word) (g : ChanCfg) (e : Enc), e.win.length ≤ 32 →
    g.minIntervalMs.toNat ≤ (now - e.lastUpdMs).toNat →
    ∃ old, (refreshed now g e).win =
        old ++ [{ ts := now, d := (e.count - e.prev).toInt, dt := now - e.lastUpdMs }] ∧
      old <:+ e.win ∧ old.length ≤ 31 ∧
      (∀ x, old.head? = some x → (now - x.ts).toNat ≤ g.windowMs.toNat) ∧
      ((∀ x ∈ e.win, g.windowMs.toNat < (now - x.ts).toNat) → old = []) ∧
      windowEvict now g.windowMs
        (windowAppend e.win { ts := now, d := (e.count - e.prev).toInt, dt := now - e.lastUpdMs }) =
        (refreshed now g e).win

/-- R144: the RPM of a window is finite. -/
def Obligations.RpmIsFinite : Prop :=
  ∀ (tpr : Word) (w : List Sample), tpr ≠ 0#32 → w.length ≤ 32 → (∀ x ∈ w, -2 ^ 31 ≤ x.d ∧ x.d < 2 ^ 31) →
    finite (windowRpm tpr w) = true

/-! # Control law -/

/-- R169, R170: PID_RESET clears the integral, the last error, the last output and the saturation bits of its channel;
NUM_FAULT, TARGET, the PWM output, the encoder, RESULT and everything else stay; its word is 0x0000_0c04. -/
def Obligations.PidResetResult : Prop :=
  ∀ (s : State) (c : Chan), s.par.role = .controller →
    encode (.pidReset c.field) = .command (BitVec.ofNat 32 (c.index * 256 + 0x04)) ∧
    exec (.pidReset c.field) s = .next (s.setCh c { s.ch c with pid := pidCleared (s.ch c).pid })

/-- R161 to R166, R168: PID_COMPUTE with finite operands and dt > +0 whose duty is no NaN stores the law's new state,
sets the saturation bits, and returns the duty. -/
def Obligations.PidComputeResult : Prop :=
  ∀ (s : State) (c : Chan), s.par.role = .controller →
    finite s.ctl.arg0 = true → finite s.ctl.arg1 = true → finite s.ctl.arg2 = true → fgt s.ctl.arg2 0#32 = true →
    isnan (law (s.ch c).cfg (s.ch c).pid s.ctl.arg0 s.ctl.arg1 s.ctl.arg2).out = false →
    exec (.pidCompute c.field) s = .next
      (result (law (s.ch c).cfg (s.ch c).pid s.ctl.arg0 s.ctl.arg1 s.ctl.arg2).out
        (evaluated c s.ctl.arg0 s.ctl.arg1 s.ctl.arg2 s))

/-- R167, R168: PID_COMPUTE whose duty is NaN clears the law's state, marks and reports the numeric fault, and returns 0. -/
def Obligations.PidComputeFaults : Prop :=
  ∀ (s : State) (c : Chan), s.par.role = .controller →
    finite s.ctl.arg0 = true → finite s.ctl.arg1 = true → finite s.ctl.arg2 = true → fgt s.ctl.arg2 0#32 = true →
    isnan (law (s.ch c).cfg (s.ch c).pid s.ctl.arg0 s.ctl.arg1 s.ctl.arg2).out = true →
    exec (.pidCompute c.field) s = .next (result 0#32 (lawFaulted c s))

/-- R123, R168, R180, R207: an operand that must be finite and is not makes the command report 0x05 with its channel and do
nothing else; a finite dt of PID_COMPUTE that is not above +0 makes it report 0x06 and do nothing else. -/
def Obligations.OperandChecks : Prop :=
  (∀ (s : State) (c : Chan), s.par.role = .controller → finite s.ctl.arg0 = false →
    exec (.setTarget c.field) s = .next (report .argNonfinite c.field s)) ∧
  (∀ (s : State) (c : Chan), s.par.role = .controller →
    (finite s.ctl.arg0 = false ∨ finite s.ctl.arg1 = false ∨ finite s.ctl.arg2 = false) →
    exec (.pidCompute c.field) s = .next (report .argNonfinite c.field s)) ∧
  (∀ (s : State) (c : Chan), s.par.role = .controller → finite s.ctl.arg0 = true → finite s.ctl.arg1 = true →
    finite s.ctl.arg2 = true → fgt s.ctl.arg2 0#32 = false →
    exec (.pidCompute c.field) s = .next (report .argRange c.field s)) ∧
  (∀ s : State, s.par.role = .host → (finite s.ctl.arg0 = false ∨ finite s.ctl.arg1 = false) →
    exec .txCmdFrame s = .next (report .argNonfinite 0#4 s))

/-- R172: under a legal configuration every duty the law returns lies in [DUTY_MIN, DUTY_MAX] and in [0, 1]; the last
output stored after an evaluation is that duty, or +0 on a fault, and it is +0 after a reset of the law. -/
def Obligations.DutyStaysInBounds : Prop :=
  ∀ (s : State) (c : Chan) (target current dt : F32), (s.ch c).cfg.legal = true →
    (s.pidFaults c target current dt = false →
      flt (pidOut (s.ch c).cfg (s.ch c).pid target current dt) (s.ch c).cfg.dutyMin = false ∧
      fgt (pidOut (s.ch c).cfg (s.ch c).pid target current dt) (s.ch c).cfg.dutyMax = false ∧
      inDuty (pidOut (s.ch c).cfg (s.ch c).pid target current dt) = true ∧
      ((pidEval c target current dt s).ch c).pid.lastOut = pidOut (s.ch c).cfg (s.ch c).pid target current dt) ∧
    (s.pidFaults c target current dt = true → ((pidEval c target current dt s).ch c).pid.lastOut = 0#32) ∧
    ((pidReset c s).ch c).pid.lastOut = 0#32

/-- R171, R13, R14: from a last output inside the bounds a duty moves by at most SLEW_MAX and 2^-25, in exact arithmetic:
values are counted in units of 2^-149, of which 2^-25 holds 2^124. What the law, the RPM and the heartbeat compute with
is IEEE-754: each of `fadd`, `fsub`, `fmul`, `fdiv` and the conversion of an integer gives the exact result rounded to
nearest with ties to even and gradual underflow, with the infinities, NaN and signed zeros IEEE-754 gives; and the tests
and comparisons are those of the values. -/
def Obligations.SlewIsBounded : Prop :=
  (∀ a b : F32, AddIsIeee a b ∧ fsub a b = fadd a (b ^^^ 0x80000000#32) ∧ MulIsIeee a b ∧ DivIsIeee a b ∧
    TestsAreIeee a b ∧ fabs a = a &&& 0x7FFFFFFF#32 ∧ fneg a = a ^^^ 0x80000000#32) ∧
  (∀ n : Int, (n ≠ 0 → Nearest n (f32OfInt n)) ∧ (n = 0 → f32OfInt n = 0#32)) ∧
  ∀ (g : ChanCfg) (p : Pid) (target current dt : F32), g.legal = true →
    isnan p.lastOut = false → flt p.lastOut g.dutyMin = false → fgt p.lastOut g.dutyMax = false →
    isnan (pidOut g p target current dt) = false →
    |fVal (pidOut g p target current dt) - fVal p.lastOut| ≤ fVal g.slewMax + 2 ^ 124

/-! # Motor loop and actuators -/

/-- R180, R182, R187: SET_TARGET with +0 or -0 zeroes the target and the output at once, resets the law, and resets the
encoder when the target was nonzero; DIR_NEG, BRAKE, LAST_STEP_MS, RESULT and everything else stay. -/
def Obligations.SetTargetStops : Prop :=
  ∀ (s : State) (c : Chan), s.par.role = .controller → (s.ctl.arg0 = 0#32 ∨ s.ctl.arg0 = 0x80000000#32) →
    exec (.setTarget c.field) s = .next (s.setCh c (chanStopped s.clk.timeMs (s.ch c)))

/-- R180, R181, R182, R192: SET_TARGET with a nonzero finite value stores its magnitude and its sign, releases the brake,
and on a stopped channel also arms it: the law and the encoder are reset and LAST_STEP_MS is now. -/
def Obligations.SetTargetDrives : Prop :=
  ∀ (s : State) (c : Chan), s.par.role = .controller → finite s.ctl.arg0 = true → s.ctl.arg0 ≠ 0#32 →
    s.ctl.arg0 ≠ 0x80000000#32 →
    exec (.setTarget c.field) s = .next (s.setCh c
      (let x := s.ch c
       let m := { x.mot with
         target := s.ctl.arg0 &&& 0x7FFFFFFF#32, dirNeg := s.ctl.arg0.getLsbD 31, brake := false }
       if feq x.mot.target 0#32 then
         { x with
           pid := pidCleared x.pid
           enc := encCleared s.clk.timeMs x.enc
           mot := { m with lastStepMs := s.clk.timeMs } }
       else { x with mot := m }))

/-- R183, R184, R269: a STEP on a stopped channel or before max(MIN_PERIOD_MS, 1) ms have passed changes RESULT to 0 and
nothing else. -/
def Obligations.StepIsSkipped : Prop :=
  ∀ (s : State) (c : Chan), s.par.role = .controller → ¬ stepRuns c s →
    exec (.step c.field) s = .next (result 0#32 s)

/-- R183, R185, R142, R161: a STEP that runs and does not fault refreshes the encoder, evaluates the law on the projected
RPM, stores the duty to be loaded at the next PWM period, stamps the step, and returns 1. -/
def Obligations.StepExecutes : Prop :=
  ∀ (s : State) (c : Chan), s.par.role = .controller → stepRuns c s → isnan (stepLaw c s).out = false →
    ∃ t, t = evaluated c (s.ch c).mot.target (stepCurrent c s) (stepSeconds c s)
        (s.setCh c { s.ch c with enc := stepEnc c s }) ∧
      exec (.step c.field) s = .next (result 1#32 (t.setCh c { t.ch c with mot :=
        { (s.ch c).mot with
          lastStepMs := s.clk.timeMs, lastDtMs := stepEl c s, pendDuty := (stepLaw c s).out } }))

/-- R183, R189, R167: a STEP whose law gives NaN stops the channel: the law's state is cleared and the fault reported, the
target and the output go to zero, the encoder is reset, the step is stamped, and RESULT is 3. -/
def Obligations.StepFaultStops : Prop :=
  ∀ (s : State) (c : Chan), s.par.role = .controller → stepRuns c s → isnan (stepLaw c s).out = true →
    ∃ t, t = lawFaulted c s ∧
      exec (.step c.field) s = .next (result 3#32 (t.setCh c { t.ch c with
        enc := encCleared s.clk.timeMs (stepEnc c s)
        mot := { motorStopped (s.ch c).mot with lastStepMs := s.clk.timeMs, lastDtMs := stepEl c s } }))

/-- R186, R187: BRAKE does what a zero target does and sets the brake. -/
def Obligations.BrakeResult : Prop :=
  ∀ (s : State) (c : Chan), s.par.role = .controller →
    exec (.brake c.field) s = .next (s.setCh c
      { chanStopped s.clk.timeMs (s.ch c) with mot := { motorStopped (s.ch c).mot with brake := true } })

/-- R191, R192, R32: one cycle of the PWM generators at CONTROLLER, and the restart of both periods by a write of PWM_TOP;
at HOST the phase does nothing. -/
def Obligations.PwmGenerator : Prop :=
  (∀ s : State, s.phase = .pwm → s.par.role = .controller →
    step s = .next { s with
      ch0 := { s.ch0 with mot := pwmNext s.ctl.pwmTop s.ch0.mot }
      ch1 := { s.ch1 with mot := pwmNext s.ctl.pwmTop s.ch1.mot }
      phase := .bus }) ∧
  (∀ s : State, s.phase = .pwm → s.par.role = .host → step s = .next { s with phase := .bus }) ∧
  (∀ (s : State) (addr v : Word) (c : Chan), onBus s (wr addr v) → offset addr = 0x02C → s.par.role = .controller →
    ∃ t, step s = .next t ∧ t.ctl = { s.ctl with pwmTop := v.extractLsb' 0 16 } ∧
      (t.ch c).mot = { (s.ch c).mot with
        pwmCnt := 0, pwmCmp := pwmConv (s.ch c).mot.pendDuty (v.extractLsb' 0 16) })

/-- R191: `conv` is min(TOP + 1, floor(x (TOP + 1))) of the exact value for x in [0, 1] or -0; 1.0 gives TOP + 1, and 0 and
-0 give 0. The exact value of x is `fMag x` units of 2^-149. -/
def Obligations.PwmConvIsExact : Prop :=
  ∀ (x : F32) (top : BitVec 16), inDuty x = true → (x.getLsbD 31 = false ∨ x = 0x80000000#32) →
    (pwmConv x top).toNat ≤ top.toNat + 1 ∧
    (pwmConv x top).toNat * 2 ^ 149 ≤ fMag x * (top.toNat + 1) ∧
    ((pwmConv x top).toNat ≤ top.toNat → fMag x * (top.toNat + 1) < ((pwmConv x top).toNat + 1) * 2 ^ 149) ∧
    (pwmConv 0x3F800000#32 top).toNat = top.toNat + 1 ∧ pwmConv 0#32 top = 0#17 ∧ pwmConv 0x80000000#32 top = 0#17

/-- R191: over a whole period from its start `pwm` is high in exactly PWM_CMP of the TOP + 1 cycles, or in none while the
brake is on. -/
def Obligations.PwmHighForCompareCycles : Prop :=
  ∀ (top : BitVec 16) (m : Motor), m.pwmCnt = 0 → m.pwmCmp.toNat ≤ top.toNat + 1 →
    ((List.range (top.toNat + 1)).filter fun k => ((pwmTick top)^[k + 1] m).pin).length =
      (if m.brake then 0 else m.pwmCmp.toNat)

/-- R56, R149, R192, R188: MSTAT's bits and the direction and brake pins; and in the last phase of a cycle the stale
condition sets STATUS.STALE0 and STALE1 at CONTROLLER and nothing else moves, while at HOST nothing does. -/
def Obligations.MstatBits : Prop :=
  (∀ s : State, s.phase = .stale → s.par.role = .controller →
    step s = .next { s with
      ctl := { s.ctl with sticky := s.ctl.sticky ||| (if isStale s .c0 then 0x04000#20 else 0#20) |||
        (if isStale s .c1 then 0x08000#20 else 0#20) }
      phase := .inputs }) ∧
  (∀ s : State, s.phase = .stale → s.par.role = .host → step s = .next { s with phase := .inputs }) ∧
  ∀ (s : State) (c : Chan),
    s.dirPin c = ((s.ch c).mot.dirNeg ^^ (s.ch c).cfg.mcfg.getLsbD 0) ∧ s.brakePin c = (s.ch c).mot.brake ∧
    (List.range 9).map (fun i => (readReg (.chan c .mstat) s).getLsbD i) =
      [(s.ch c).mot.dirNeg, s.dirPin c, s.brakePin c, !feq (s.ch c).mot.target 0#32, isStale s c,
       (s.ch c).pid.satMin, (s.ch c).pid.satMax, (s.ch c).pid.numFault, false]

/-! # Frame codec -/

/-- R216: CODEC_RESET empties the three queues and changes nothing else; its word is 0x0000_0013. -/
def Obligations.CodecResetResult : Prop :=
  encode .codecReset = .command 0x00000013#32 ∧
  ∀ s : State, exec .codecReset s = .next { s with codec := { rxbuf := [], rxq := [], txq := [] } }

/-- R215, R217, R108: RX_POP returns 0 and changes nothing else when no frame is queued; else it takes the oldest frame,
copies its fields bit for bit in the byte order CFG.PAYLOAD_LE gives, counts it, and returns 1. -/
def Obligations.RxPopResult : Prop :=
  (∀ s : State, s.codec.rxq = [] → exec .rxPop s = .next (result 0#32 s)) ∧
  (∀ (s : State) (f : Frame) (q : List Frame), s.par.role = .controller → s.codec.rxq = f :: q →
    exec .rxPop s = .next (result 1#32 { s with
      codec := { s.codec with rxq := q }
      vel := { v := field32 (le s) f.payload 0, w := field32 (le s) f.payload 4, seq := s.vel.seq + 1#32 } })) ∧
  (∀ (s : State) (f : Frame) (q : List Frame), s.par.role = .host → s.codec.rxq = f :: q →
    exec .rxPop s = .next (result 1#32 { s with
      codec := { s.codec with rxq := q }, lat := latched s f.payload }))

/-- R200 to R203, R206, R207: TX_CMD_FRAME with finite operands queues the velocity frame whole and returns 1, reports 0x15 and
returns 0 when it does not fit, and returns 0 with no error while the link is down. -/
def Obligations.TxCmdFrameResult : Prop :=
  ∀ s : State, s.par.role = .host → finite s.ctl.arg0 = true → finite s.ctl.arg1 = true →
    ∃ t, exec .txCmdFrame s = .next t ∧
      sendOutcome (frame (csum16 s 0x01#8) 0x01#8 (bytes32 (le s) s.ctl.arg0 ++ bytes32 (le s) s.ctl.arg1)) s t

/-- R103, R104, R200 to R206, R214: TX_TLM_FRAME queues the telemetry frame of the current values, with the flags word of R104,
and returns as TX_CMD_FRAME does. -/
def Obligations.TxTlmFrameResult : Prop :=
  ∀ s : State, s.par.role = .controller →
    ∃ (t : State) (fl : Half), exec .txTlmFrame s = .next t ∧ (∀ i, i < 16 → fl.getLsbD i = flagBit s i) ∧
      sendOutcome (frame (csum16 s 0x02#8) 0x02#8 (tlmBytes s fl)) s t

/-- R102, R105, R208 to R211: a VEL_CMD frame with its right checksum that arrives at a CONTROLLER whose link is up and whose
receive buffer is empty is accepted: counted, and queued, or dropped with 0x14 when four frames wait. With a wrong
checksum it is reported, counted and not queued; at HOST its header is. A down link ignores it; and in every state its
bytes reach the decoder one by one (DecoderHoldsOnlyAFramePrefix says what each does), behind those already there. -/
def Obligations.VelCmdIsAccepted : Prop :=
  (∀ (s : State) (p : VelWire) (ck : Checksum), s.par.role = .controller → s.link.state = .up → s.codec.rxbuf = [] →
    ck.encode = sumBytes (csum16 s 0x01#8) 0x01#8 p.bytes →
    exec (.velCmd p ck) s = .next (accepted { id := 0x01#8, payload := p.bytes } s)) ∧
  (∀ (s : State) (p : VelWire) (ck : Checksum), s.par.role = .controller → s.link.state = .up → s.codec.rxbuf = [] →
    ck.encode.length = (if csum16 s 0x01#8 then 2 else 1) → ck.encode ≠ sumBytes (csum16 s 0x01#8) 0x01#8 p.bytes →
    ∃ t, exec (.velCmd p ck) s = .next t ∧ t.ctl.sticky.getLsbD 4 = true ∧
      t.cnt.rxCsumErr = s.cnt.rxCsumErr + 1#32 ∧ t.cnt.rxOk = s.cnt.rxOk ∧ t.codec.rxq = s.codec.rxq) ∧
  (∀ (s : State) (p : VelWire) (ck : Checksum), s.par.role = .host → s.link.state = .up → s.codec.rxbuf = [] →
    ∃ t, exec (.velCmd p ck) s = .next t ∧ t.ctl.sticky.getLsbD 6 = true ∧ t.cnt.rxOk = s.cnt.rxOk ∧
      t.codec.rxq = s.codec.rxq) ∧
  (∀ (s : State) (p : VelWire) (ck : Checksum), s.link.state = .down → exec (.velCmd p ck) s = .next s) ∧
  ∀ (s : State) (p : VelWire) (ck : Checksum), exec (.velCmd p ck) s =
    .next (arrive ([0xAA#8, 0x55#8, 0x01#8, 0x00#8, 0x08#8] ++ p.bytes ++ ck.encode) s)

/-- R103, R105, R208 to R211: the same of a TELEMETRY frame at a HOST, with a right checksum and with a wrong one; at
CONTROLLER its header is reported. A down link ignores it; and in every state its bytes reach the decoder one by one. -/
def Obligations.TelemetryIsAccepted : Prop :=
  (∀ (s : State) (p : TlmWire) (ck : Checksum), s.par.role = .host → s.link.state = .up → s.codec.rxbuf = [] →
    ck.encode = sumBytes (csum16 s 0x02#8) 0x02#8 p.bytes →
    exec (.telemetry p ck) s = .next (accepted { id := 0x02#8, payload := p.bytes } s)) ∧
  (∀ (s : State) (p : TlmWire) (ck : Checksum), s.par.role = .host → s.link.state = .up → s.codec.rxbuf = [] →
    ck.encode.length = (if csum16 s 0x02#8 then 2 else 1) → ck.encode ≠ sumBytes (csum16 s 0x02#8) 0x02#8 p.bytes →
    ∃ t, exec (.telemetry p ck) s = .next t ∧ t.ctl.sticky.getLsbD 4 = true ∧
      t.cnt.rxCsumErr = s.cnt.rxCsumErr + 1#32 ∧ t.cnt.rxOk = s.cnt.rxOk ∧ t.codec.rxq = s.codec.rxq) ∧
  (∀ (s : State) (p : TlmWire) (ck : Checksum), s.par.role = .controller → s.link.state = .up → s.codec.rxbuf = [] →
    ∃ t, exec (.telemetry p ck) s = .next t ∧ t.ctl.sticky.getLsbD 6 = true) ∧
  (∀ (s : State) (p : TlmWire) (ck : Checksum), s.link.state = .down → exec (.telemetry p ck) s = .next s) ∧
  ∀ (s : State) (p : TlmWire) (ck : Checksum), exec (.telemetry p ck) s =
    .next (arrive ([0xAA#8, 0x55#8, 0x02#8, 0x00#8, 0x2E#8] ++ p.bytes ++ ck.encode) s)

/-- R108, R207, R209, R215 and EX-1: the velocity a HOST sends is, bit for bit, what RX_POP gives at a CONTROLLER whose CFG
agrees and that receives the bytes queued. -/
def Obligations.VelocityArrivesBitExact : Prop :=
  ∀ h c : State, h.par.role = .host → c.par.role = .controller → h.ctl.cfg = c.ctl.cfg →
    finite h.ctl.arg0 = true → finite h.ctl.arg1 = true → h.link.state = .up → h.codec.txq.length ≤ 241 →
    c.link.state = .up → c.codec.rxbuf = [] → c.codec.rxq = [] →
    ∃ (h' c' : State) (bytes : List Byte), exec .txCmdFrame h = .next h' ∧ h'.codec.txq = h.codec.txq ++ bytes ∧
      exec .rxPop (deliverAll bytes c) = .next c' ∧ c'.vel.v = h.ctl.arg0 ∧ c'.vel.w = h.ctl.arg1 ∧
      c'.vel.seq = c.vel.seq + 1#32 ∧ c'.ctl.result = 1#32 ∧ c'.codec.rxbuf = []

/-- R208 to R212, R244, C4: a byte that arrives while the link is up is appended and the decoder runs R209's loop, with every
report, count and drop of it (0x10, 0x11, 0x12, one byte dropped and rescanned; the frames accepted); while the link is
down it is ignored; a step delivers the byte at the front when no whole frame of the table stands there. Then the receive
buffer is empty, or the byte 0xAA, or a start pair with fewer than 5 bytes, or an accepted header with fewer bytes than its
frame has. -/
def Obligations.DecoderHoldsOnlyAFramePrefix : Prop :=
  (∀ (s : State) (b : Byte), s.link.state = .up →
    Scans { s with codec := { s.codec with rxbuf := s.codec.rxbuf ++ [b] } } (deliver b s)) ∧
  (∀ (s : State) (b : Byte), s.link.state = .down → deliver b s = s) ∧
  (∀ (s : State) (b : Byte) (rest : List Byte), s.phase = .rx → s.rxb = b :: rest →
    (∀ f, decodeFrame (sumWidth (s.ctl.cfg.getLsbD 0)) (sumWidth (s.ctl.cfg.getLsbD 1)) s.rxb ≠ .ok f) →
    step s = .next (deliver b { s with rxb := rest })) ∧
  ∀ (s : State) (b : Byte), s.link.state = .up →
    (deliver b s).codec.rxbuf = [] ∨ (deliver b s).codec.rxbuf = [0xAA#8] ∨
    ([0xAA#8, 0x55#8] <+: (deliver b s).codec.rxbuf ∧ (deliver b s).codec.rxbuf.length < 5) ∨
    (rxHeader s.par.role <+: (deliver b s).codec.rxbuf ∧ (deliver b s).codec.rxbuf.length < rxFrameLength s)

/-! # The serial line and the link -/

/-- R231, R232, R233, R237, R240: an idle transmitter takes the head of `txq` and drives its ten bits, each for DIV cycles,
least significant data bit first; after 10 DIV cycles it is idle, ready for the next byte in `txq` order, and nothing
else has changed. A step of the phase is one such cycle: it goes on with a byte that is being sent and takes none, it
loads the next byte with a copy of DIV when it is idle and the link is up, and with no byte or a down link it only keeps
the line high. -/
def Obligations.TransmitterSendsTheByte : Prop :=
  (∀ s : State, s.phase = .tx → step s = .next { txCycle s with phase := .pwm }) ∧
  (∀ s : State, s.utx.busy = true → txCycle s = { s with utx := bitSent s.utx }) ∧
  (∀ (s : State) (b : Byte) (q : List Byte), s.utx.busy = false → s.link.state = .up → s.codec.txq = b :: q →
    txCycle s = { s with
      codec := { s.codec with txq := q }
      utx := bitSent { s.utx with busy := true, byte := b, idx := 0, cnt := 0, div := s.ctl.baudDiv.toNat } }) ∧
  (∀ s : State, s.utx.busy = false → s.codec.txq = [] ∨ s.link.state = .down →
    txCycle s = { s with utx := { s.utx with pin := true } }) ∧
  ∀ (s : State) (b : Byte) (q : List Byte), s.utx.busy = false → s.link.state = .up → s.codec.txq = b :: q →
    0 < s.ctl.baudDiv.toNat →
    (∀ k, k < 10 * s.ctl.baudDiv.toNat → (txCycle^[k + 1] s).utx.pin = lineBit b (k / s.ctl.baudDiv.toNat)) ∧
    (txCycle^[10 * s.ctl.baudDiv.toNat] s).utx.busy = false ∧
    txCycle^[10 * s.ctl.baudDiv.toNat] s =
      { s with codec := { s.codec with txq := q }, utx := (txCycle^[10 * s.ctl.baudDiv.toNat] s).utx }

/-- R234 to R237, R244 and UART-3: an idle receiver whose synchronised line carries a byte's ten bits delivers that byte to
the decoder at the stop bit's sample, 9 DIV + floor(DIV / 2) cycles after the start edge, and is idle again; a stop bit
that reads 0 gives no byte but 0x13, counted, and WAIT_HIGH, which ends when the line is high. A start bit that reads 1 at
its sample is forgotten, an idle line does nothing, and a down link holds the receiver. A step of the phase without
byte-level bytes is one such cycle. In every state inside a byte, whatever the line did before and whatever BAUD_DIV holds
now, only the sample points of the copy `rx_div` count: between them only `rx_t` moves, each data bit's sample is stored
once, and the stop bit's sample delivers the byte or reports 0x13. -/
def Obligations.ReceiverDeliversTheByte : Prop :=
  (∀ (s t : State) (b : Byte) (stop : Bool), s.link.state = .up → s.urx.state = .idle → 2 ≤ s.ctl.baudDiv.toNat →
    t = (List.range (9 * s.ctl.baudDiv.toNat + s.ctl.baudDiv.toNat / 2 + 1)).foldl
      (fun x j => rxTick x (if j / s.ctl.baudDiv.toNat = 9 then stop else lineBit b (j / s.ctl.baudDiv.toNat))) s →
    (stop = true → t.urx.state = .idle ∧ t = { deliver b s with urx := t.urx }) ∧
    (stop = false → t.urx.state = .waitHigh ∧
      t = { report .rxFraming 0#4 { s with cnt := { s.cnt with rxFerr := s.cnt.rxFerr + 1#32 } } with urx := t.urx })) ∧
  (∀ s : State, s.link.state = .up → s.urx.state = .waitHigh →
    rxCycle s = { s with urx := { s.urx with state := if s.urx.sync2 then .idle else .waitHigh } }) ∧
  (∀ s : State, s.link.state = .up → s.urx.state = .busy → s.urx.t = s.urx.div / 2 → s.urx.sync2 = true →
    rxCycle s = { s with urx := { s.urx with state := .idle, t := s.urx.t + 1 } }) ∧
  (∀ s : State, s.link.state = .up → s.urx.state = .busy → s.urx.t = s.urx.div / 2 → s.urx.sync2 = false →
    rxCycle s = { s with urx := { s.urx with t := s.urx.t + 1 } }) ∧
  (∀ s : State, s.link.state = .up → s.urx.state = .busy → (∀ k, k ≤ 9 → s.urx.t ≠ k * s.urx.div + s.urx.div / 2) →
    rxCycle s = { s with urx := { s.urx with t := s.urx.t + 1 } }) ∧
  (∀ (s : State) (k : Nat), s.link.state = .up → s.urx.state = .busy → 0 < s.urx.div → 1 ≤ k → k ≤ 8 →
    s.urx.t = k * s.urx.div + s.urx.div / 2 →
    ∃ byte : Byte, (∀ i, i < 8 → byte.getLsbD i = if i = k - 1 then s.urx.sync2 else s.urx.shift.getLsbD i) ∧
      rxCycle s = { s with urx := { s.urx with t := s.urx.t + 1, shift := byte } }) ∧
  (∀ s : State, s.link.state = .up → s.urx.state = .busy → 0 < s.urx.div → s.urx.t = 9 * s.urx.div + s.urx.div / 2 →
    (s.urx.sync2 = true → rxCycle s =
      { deliver s.urx.shift s with urx := { s.urx with state := .idle, t := s.urx.t + 1 } }) ∧
    (s.urx.sync2 = false → rxCycle s =
      { report .rxFraming 0#4 { s with cnt := { s.cnt with rxFerr := s.cnt.rxFerr + 1#32 } } with
        urx := { s.urx with state := .waitHigh, t := s.urx.t + 1 } })) ∧
  (∀ s : State, s.link.state = .up → s.urx.state = .idle → s.urx.sync2 = false →
    rxCycle s = { s with urx := { s.urx with state := .busy, t := 1, div := s.ctl.baudDiv.toNat } }) ∧
  (∀ s : State, s.link.state = .up → s.urx.state = .idle → s.urx.sync2 = true → rxCycle s = s) ∧
  (∀ s : State, s.link.state = .down → rxCycle s = s) ∧
  (∀ s : State, s.phase = .rx → s.rxb = [] → step s = .next { rxCycle s with phase := .tx })

/-- R240 to R242: in the link's phase an up link goes down on `io_fault`, both byte paths flushed and 0x16 reported; a down link
whose backoff has passed when TIME_MS has just moved comes up, or restarts its backoff while `io_fault` is 1; else
nothing changes. -/
def Obligations.LinkTransitions : Prop :=
  (∀ s : State, s.phase = .link → s.link.state = .up → s.pins.ioFault = true →
    step s = .next (report .linkIoFault 0#4 { s with
      link := { s.link with state := .down, downSinceMs := s.clk.timeMs }
      codec := { rxbuf := [], rxq := [], txq := [] }
      utx := { s.utx with busy := false, pin := true }
      urx := { s.urx with state := .idle }
      phase := .enc })) ∧
  (∀ s : State, s.phase = .link → s.link.state = .up → s.pins.ioFault = false →
    step s = .next { s with phase := .enc }) ∧
  (∀ s : State, s.phase = .link → s.link.state = .down →
    (s.clk.msTick = false ∨ (s.clk.timeMs - s.link.downSinceMs).toNat < s.link.backoffMs.toNat) →
    step s = .next { s with phase := .enc }) ∧
  (∀ s : State, s.phase = .link → s.link.state = .down → s.clk.msTick = true →
    s.link.backoffMs.toNat ≤ (s.clk.timeMs - s.link.downSinceMs).toNat →
    step s = .next (if s.pins.ioFault then
        { s with link := { s.link with downSinceMs := s.clk.timeMs }, phase := .enc }
      else
        { s with
          link := { s.link with state := .up, sentSinceUp := false }
          urx := { s.urx with state := .waitHigh }
          phase := .enc }))

/-- R245 to R249: LINK_STEP reports a non-finite input, sends the clamped command when the link is up and a send is due, with
0x15 when it does not fit, pops at most one telemetry frame, and returns what it did. -/
def Obligations.LinkStepResult : Prop :=
  ∀ s : State, s.par.role = .host →
    (wantsSend s → fits s (heartbeatBytes s) → exec .linkStep s = .next (telemetryTaken 1 (heartbeatSent s))) ∧
    (wantsSend s → ¬ fits s (heartbeatBytes s) →
      exec .linkStep s = .next (telemetryTaken 0 (report .txFifoOverflow 0#4 (inputReported s)))) ∧
    (¬ wantsSend s → exec .linkStep s = .next (telemetryTaken 0 (inputReported s)))

/-- R247, R39: under legal limits a velocity LINK_STEP sends is finite and within plus and minus VMAX and WMAX, and a
finite input within its limit is sent as it is. -/
def Obligations.SentVelocityIsSafe : Prop :=
  ∀ s t : State, s.par.role = .host → legalLimit s.hb.vmax = true → legalLimit s.hb.wmax = true →
    exec .linkStep s = .next t → t.ctl.result.getLsbD 0 = true →
    finite t.hb.lastSentV = true ∧ fgt t.hb.lastSentV s.hb.vmax = false ∧
    flt t.hb.lastSentV (fneg s.hb.vmax) = false ∧
    finite t.hb.lastSentW = true ∧ fgt t.hb.lastSentW s.hb.wmax = false ∧
    flt t.hb.lastSentW (fneg s.hb.wmax) = false ∧
    (finite s.hb.cmdInV = true → flt s.hb.cmdInV (fneg s.hb.vmax) = false → fgt s.hb.cmdInV s.hb.vmax = false →
      t.hb.lastSentV = s.hb.cmdInV) ∧
    (finite s.hb.cmdInW = true → flt s.hb.cmdInW (fneg s.hb.wmax) = false → fgt s.hb.cmdInW s.hb.wmax = false →
      t.hb.lastSentW = s.hb.cmdInW)

/-! # Invariants that every step keeps -/

/-- R33, R39, R40, R49 to R51, R53, R122: no step makes the configuration illegal. -/
def Obligations.ConfigurationStaysLegal : Prop :=
  ∀ s t : State, s.configLegal = true → step s = .next t → t.configLegal = true

/-- R58, R60, R206, R211, R212, R241, R244: no step overfills a queue, and a link that is down holds nothing. -/
def Obligations.QueuesStayBounded : Prop :=
  ∀ s t : State, s.queuesBounded = true → step s = .next t → t.queuesBounded = true

/-- R54, R167, R172, R187, R190, R191: under a legal configuration no step takes an actuator value out of its range, or
a NaN into the control law's registers. -/
def Obligations.ActuatorsStayBounded : Prop :=
  ∀ s t : State, s.configLegal = true → s.actuatorsBounded = true → s.lawNumeric = true → step s = .next t →
    t.actuatorsBounded = true ∧ t.lawNumeric = true

/-- R26, R28, R261: no step leaves ERR_CODE with a code that is never raised or a channel where none belongs, or sets a
STATUS bit that is live or the other role's. -/
def Obligations.ErrorReportStaysConsistent : Prop :=
  ∀ s t : State, s.reportConsistent = true → step s = .next t → t.reportConsistent = true

/-- R25, R33, R61, R233, R234: under a legal configuration no step takes a counter of the clock or the UART out of its
range. -/
def Obligations.CountersStayInRange : Prop :=
  ∀ s t : State, s.configLegal = true → s.countersInRange = true → step s = .next t → t.countersInRange = true

/-- R64, R280, R282: the state after power-on reset is good, whatever the role, the divider and the pins; so is the model's
own reset state (logs 1, 2, 7). -/
def Obligations.ResetIsGood : Prop :=
  State.reset.good = true ∧
  ∀ (par : Params) (pins : Pins), 0 < par.msDiv → (State.powerOn par pins).good = true

end
end

