-- ==== Sys2Proof/Laws/State.lean ====
section
/-! SUPPORT. The field lemmas of State's named updates: what each leaves in each field, for simp. -/

namespace Sys2Proof.Machine

open Sys2Proof

/-! ## State.setCh -/

@[simp] theorem State.setCh_par (s : State) (c : Chan) (x : Channel) : (s.setCh c x).par = s.par := by cases c <;> rfl
@[simp] theorem State.setCh_clk (s : State) (c : Chan) (x : Channel) : (s.setCh c x).clk = s.clk := by cases c <;> rfl
@[simp] theorem State.setCh_ctl (s : State) (c : Chan) (x : Channel) : (s.setCh c x).ctl = s.ctl := by cases c <;> rfl
@[simp] theorem State.setCh_cnt (s : State) (c : Chan) (x : Channel) : (s.setCh c x).cnt = s.cnt := by cases c <;> rfl
@[simp] theorem State.setCh_link (s : State) (c : Chan) (x : Channel) : (s.setCh c x).link = s.link := by cases c <;> rfl
@[simp] theorem State.setCh_hb (s : State) (c : Chan) (x : Channel) : (s.setCh c x).hb = s.hb := by cases c <;> rfl
@[simp] theorem State.setCh_vel (s : State) (c : Chan) (x : Channel) : (s.setCh c x).vel = s.vel := by cases c <;> rfl
@[simp] theorem State.setCh_tlm (s : State) (c : Chan) (x : Channel) : (s.setCh c x).tlm = s.tlm := by cases c <;> rfl
@[simp] theorem State.setCh_lat (s : State) (c : Chan) (x : Channel) : (s.setCh c x).lat = s.lat := by cases c <;> rfl
@[simp] theorem State.setCh_codec (s : State) (c : Chan) (x : Channel) : (s.setCh c x).codec = s.codec := by cases c <;> rfl
@[simp] theorem State.setCh_utx (s : State) (c : Chan) (x : Channel) : (s.setCh c x).utx = s.utx := by cases c <;> rfl
@[simp] theorem State.setCh_urx (s : State) (c : Chan) (x : Channel) : (s.setCh c x).urx = s.urx := by cases c <;> rfl
@[simp] theorem State.setCh_pins (s : State) (c : Chan) (x : Channel) : (s.setCh c x).pins = s.pins := by cases c <;> rfl
@[simp] theorem State.setCh_bus (s : State) (c : Chan) (x : Channel) : (s.setCh c x).bus = s.bus := by cases c <;> rfl
@[simp] theorem State.setCh_rxb (s : State) (c : Chan) (x : Channel) : (s.setCh c x).rxb = s.rxb := by cases c <;> rfl
@[simp] theorem State.setCh_env (s : State) (c : Chan) (x : Channel) : (s.setCh c x).env = s.env := by cases c <;> rfl
@[simp] theorem State.setCh_rdata (s : State) (c : Chan) (x : Channel) : (s.setCh c x).rdata = s.rdata := by cases c <;> rfl
@[simp] theorem State.setCh_phase (s : State) (c : Chan) (x : Channel) : (s.setCh c x).phase = s.phase := by cases c <;> rfl
@[simp] theorem State.setCh_freeCtr (s : State) (c : Chan) (x : Channel) : (s.setCh c x).freeCtr = s.freeCtr := by cases c <;> rfl

/-! ## State.setPid -/

@[simp] theorem State.setPid_par (s : State) (c : Chan) (x : Pid) : (s.setPid c x).par = s.par := by cases c <;> rfl
@[simp] theorem State.setPid_clk (s : State) (c : Chan) (x : Pid) : (s.setPid c x).clk = s.clk := by cases c <;> rfl
@[simp] theorem State.setPid_ctl (s : State) (c : Chan) (x : Pid) : (s.setPid c x).ctl = s.ctl := by cases c <;> rfl
@[simp] theorem State.setPid_cnt (s : State) (c : Chan) (x : Pid) : (s.setPid c x).cnt = s.cnt := by cases c <;> rfl
@[simp] theorem State.setPid_link (s : State) (c : Chan) (x : Pid) : (s.setPid c x).link = s.link := by cases c <;> rfl
@[simp] theorem State.setPid_hb (s : State) (c : Chan) (x : Pid) : (s.setPid c x).hb = s.hb := by cases c <;> rfl
@[simp] theorem State.setPid_vel (s : State) (c : Chan) (x : Pid) : (s.setPid c x).vel = s.vel := by cases c <;> rfl
@[simp] theorem State.setPid_tlm (s : State) (c : Chan) (x : Pid) : (s.setPid c x).tlm = s.tlm := by cases c <;> rfl
@[simp] theorem State.setPid_lat (s : State) (c : Chan) (x : Pid) : (s.setPid c x).lat = s.lat := by cases c <;> rfl
@[simp] theorem State.setPid_codec (s : State) (c : Chan) (x : Pid) : (s.setPid c x).codec = s.codec := by cases c <;> rfl
@[simp] theorem State.setPid_utx (s : State) (c : Chan) (x : Pid) : (s.setPid c x).utx = s.utx := by cases c <;> rfl
@[simp] theorem State.setPid_urx (s : State) (c : Chan) (x : Pid) : (s.setPid c x).urx = s.urx := by cases c <;> rfl
@[simp] theorem State.setPid_pins (s : State) (c : Chan) (x : Pid) : (s.setPid c x).pins = s.pins := by cases c <;> rfl
@[simp] theorem State.setPid_bus (s : State) (c : Chan) (x : Pid) : (s.setPid c x).bus = s.bus := by cases c <;> rfl
@[simp] theorem State.setPid_rxb (s : State) (c : Chan) (x : Pid) : (s.setPid c x).rxb = s.rxb := by cases c <;> rfl
@[simp] theorem State.setPid_env (s : State) (c : Chan) (x : Pid) : (s.setPid c x).env = s.env := by cases c <;> rfl
@[simp] theorem State.setPid_rdata (s : State) (c : Chan) (x : Pid) : (s.setPid c x).rdata = s.rdata := by cases c <;> rfl
@[simp] theorem State.setPid_phase (s : State) (c : Chan) (x : Pid) : (s.setPid c x).phase = s.phase := by cases c <;> rfl
@[simp] theorem State.setPid_freeCtr (s : State) (c : Chan) (x : Pid) : (s.setPid c x).freeCtr = s.freeCtr := by cases c <;> rfl

/-! ## State.setEnc -/

@[simp] theorem State.setEnc_par (s : State) (c : Chan) (x : Enc) : (s.setEnc c x).par = s.par := by cases c <;> rfl
@[simp] theorem State.setEnc_clk (s : State) (c : Chan) (x : Enc) : (s.setEnc c x).clk = s.clk := by cases c <;> rfl
@[simp] theorem State.setEnc_ctl (s : State) (c : Chan) (x : Enc) : (s.setEnc c x).ctl = s.ctl := by cases c <;> rfl
@[simp] theorem State.setEnc_cnt (s : State) (c : Chan) (x : Enc) : (s.setEnc c x).cnt = s.cnt := by cases c <;> rfl
@[simp] theorem State.setEnc_link (s : State) (c : Chan) (x : Enc) : (s.setEnc c x).link = s.link := by cases c <;> rfl
@[simp] theorem State.setEnc_hb (s : State) (c : Chan) (x : Enc) : (s.setEnc c x).hb = s.hb := by cases c <;> rfl
@[simp] theorem State.setEnc_vel (s : State) (c : Chan) (x : Enc) : (s.setEnc c x).vel = s.vel := by cases c <;> rfl
@[simp] theorem State.setEnc_tlm (s : State) (c : Chan) (x : Enc) : (s.setEnc c x).tlm = s.tlm := by cases c <;> rfl
@[simp] theorem State.setEnc_lat (s : State) (c : Chan) (x : Enc) : (s.setEnc c x).lat = s.lat := by cases c <;> rfl
@[simp] theorem State.setEnc_codec (s : State) (c : Chan) (x : Enc) : (s.setEnc c x).codec = s.codec := by cases c <;> rfl
@[simp] theorem State.setEnc_utx (s : State) (c : Chan) (x : Enc) : (s.setEnc c x).utx = s.utx := by cases c <;> rfl
@[simp] theorem State.setEnc_urx (s : State) (c : Chan) (x : Enc) : (s.setEnc c x).urx = s.urx := by cases c <;> rfl
@[simp] theorem State.setEnc_pins (s : State) (c : Chan) (x : Enc) : (s.setEnc c x).pins = s.pins := by cases c <;> rfl
@[simp] theorem State.setEnc_bus (s : State) (c : Chan) (x : Enc) : (s.setEnc c x).bus = s.bus := by cases c <;> rfl
@[simp] theorem State.setEnc_rxb (s : State) (c : Chan) (x : Enc) : (s.setEnc c x).rxb = s.rxb := by cases c <;> rfl
@[simp] theorem State.setEnc_env (s : State) (c : Chan) (x : Enc) : (s.setEnc c x).env = s.env := by cases c <;> rfl
@[simp] theorem State.setEnc_rdata (s : State) (c : Chan) (x : Enc) : (s.setEnc c x).rdata = s.rdata := by cases c <;> rfl
@[simp] theorem State.setEnc_phase (s : State) (c : Chan) (x : Enc) : (s.setEnc c x).phase = s.phase := by cases c <;> rfl
@[simp] theorem State.setEnc_freeCtr (s : State) (c : Chan) (x : Enc) : (s.setEnc c x).freeCtr = s.freeCtr := by cases c <;> rfl

/-! ## State.setMot -/

@[simp] theorem State.setMot_par (s : State) (c : Chan) (x : Motor) : (s.setMot c x).par = s.par := by cases c <;> rfl
@[simp] theorem State.setMot_clk (s : State) (c : Chan) (x : Motor) : (s.setMot c x).clk = s.clk := by cases c <;> rfl
@[simp] theorem State.setMot_ctl (s : State) (c : Chan) (x : Motor) : (s.setMot c x).ctl = s.ctl := by cases c <;> rfl
@[simp] theorem State.setMot_cnt (s : State) (c : Chan) (x : Motor) : (s.setMot c x).cnt = s.cnt := by cases c <;> rfl
@[simp] theorem State.setMot_link (s : State) (c : Chan) (x : Motor) : (s.setMot c x).link = s.link := by cases c <;> rfl
@[simp] theorem State.setMot_hb (s : State) (c : Chan) (x : Motor) : (s.setMot c x).hb = s.hb := by cases c <;> rfl
@[simp] theorem State.setMot_vel (s : State) (c : Chan) (x : Motor) : (s.setMot c x).vel = s.vel := by cases c <;> rfl
@[simp] theorem State.setMot_tlm (s : State) (c : Chan) (x : Motor) : (s.setMot c x).tlm = s.tlm := by cases c <;> rfl
@[simp] theorem State.setMot_lat (s : State) (c : Chan) (x : Motor) : (s.setMot c x).lat = s.lat := by cases c <;> rfl
@[simp] theorem State.setMot_codec (s : State) (c : Chan) (x : Motor) : (s.setMot c x).codec = s.codec := by cases c <;> rfl
@[simp] theorem State.setMot_utx (s : State) (c : Chan) (x : Motor) : (s.setMot c x).utx = s.utx := by cases c <;> rfl
@[simp] theorem State.setMot_urx (s : State) (c : Chan) (x : Motor) : (s.setMot c x).urx = s.urx := by cases c <;> rfl
@[simp] theorem State.setMot_pins (s : State) (c : Chan) (x : Motor) : (s.setMot c x).pins = s.pins := by cases c <;> rfl
@[simp] theorem State.setMot_bus (s : State) (c : Chan) (x : Motor) : (s.setMot c x).bus = s.bus := by cases c <;> rfl
@[simp] theorem State.setMot_rxb (s : State) (c : Chan) (x : Motor) : (s.setMot c x).rxb = s.rxb := by cases c <;> rfl
@[simp] theorem State.setMot_env (s : State) (c : Chan) (x : Motor) : (s.setMot c x).env = s.env := by cases c <;> rfl
@[simp] theorem State.setMot_rdata (s : State) (c : Chan) (x : Motor) : (s.setMot c x).rdata = s.rdata := by cases c <;> rfl
@[simp] theorem State.setMot_phase (s : State) (c : Chan) (x : Motor) : (s.setMot c x).phase = s.phase := by cases c <;> rfl
@[simp] theorem State.setMot_freeCtr (s : State) (c : Chan) (x : Motor) : (s.setMot c x).freeCtr = s.freeCtr := by cases c <;> rfl

/-! ## State.setResult -/

@[simp] theorem State.setResult_par (s : State) (w : Word) : (s.setResult w).par = s.par := rfl
@[simp] theorem State.setResult_clk (s : State) (w : Word) : (s.setResult w).clk = s.clk := rfl
@[simp] theorem State.setResult_cnt (s : State) (w : Word) : (s.setResult w).cnt = s.cnt := rfl
@[simp] theorem State.setResult_link (s : State) (w : Word) : (s.setResult w).link = s.link := rfl
@[simp] theorem State.setResult_hb (s : State) (w : Word) : (s.setResult w).hb = s.hb := rfl
@[simp] theorem State.setResult_vel (s : State) (w : Word) : (s.setResult w).vel = s.vel := rfl
@[simp] theorem State.setResult_tlm (s : State) (w : Word) : (s.setResult w).tlm = s.tlm := rfl
@[simp] theorem State.setResult_lat (s : State) (w : Word) : (s.setResult w).lat = s.lat := rfl
@[simp] theorem State.setResult_codec (s : State) (w : Word) : (s.setResult w).codec = s.codec := rfl
@[simp] theorem State.setResult_utx (s : State) (w : Word) : (s.setResult w).utx = s.utx := rfl
@[simp] theorem State.setResult_urx (s : State) (w : Word) : (s.setResult w).urx = s.urx := rfl
@[simp] theorem State.setResult_ch0 (s : State) (w : Word) : (s.setResult w).ch0 = s.ch0 := rfl
@[simp] theorem State.setResult_ch1 (s : State) (w : Word) : (s.setResult w).ch1 = s.ch1 := rfl
@[simp] theorem State.setResult_pins (s : State) (w : Word) : (s.setResult w).pins = s.pins := rfl
@[simp] theorem State.setResult_bus (s : State) (w : Word) : (s.setResult w).bus = s.bus := rfl
@[simp] theorem State.setResult_rxb (s : State) (w : Word) : (s.setResult w).rxb = s.rxb := rfl
@[simp] theorem State.setResult_env (s : State) (w : Word) : (s.setResult w).env = s.env := rfl
@[simp] theorem State.setResult_rdata (s : State) (w : Word) : (s.setResult w).rdata = s.rdata := rfl
@[simp] theorem State.setResult_phase (s : State) (w : Word) : (s.setResult w).phase = s.phase := rfl
@[simp] theorem State.setResult_freeCtr (s : State) (w : Word) : (s.setResult w).freeCtr = s.freeCtr := rfl

/-! ## State.setSticky -/

@[simp] theorem State.setSticky_par (s : State) (i : Nat) : (s.setSticky i).par = s.par := rfl
@[simp] theorem State.setSticky_clk (s : State) (i : Nat) : (s.setSticky i).clk = s.clk := rfl
@[simp] theorem State.setSticky_cnt (s : State) (i : Nat) : (s.setSticky i).cnt = s.cnt := rfl
@[simp] theorem State.setSticky_link (s : State) (i : Nat) : (s.setSticky i).link = s.link := rfl
@[simp] theorem State.setSticky_hb (s : State) (i : Nat) : (s.setSticky i).hb = s.hb := rfl
@[simp] theorem State.setSticky_vel (s : State) (i : Nat) : (s.setSticky i).vel = s.vel := rfl
@[simp] theorem State.setSticky_tlm (s : State) (i : Nat) : (s.setSticky i).tlm = s.tlm := rfl
@[simp] theorem State.setSticky_lat (s : State) (i : Nat) : (s.setSticky i).lat = s.lat := rfl
@[simp] theorem State.setSticky_codec (s : State) (i : Nat) : (s.setSticky i).codec = s.codec := rfl
@[simp] theorem State.setSticky_utx (s : State) (i : Nat) : (s.setSticky i).utx = s.utx := rfl
@[simp] theorem State.setSticky_urx (s : State) (i : Nat) : (s.setSticky i).urx = s.urx := rfl
@[simp] theorem State.setSticky_ch0 (s : State) (i : Nat) : (s.setSticky i).ch0 = s.ch0 := rfl
@[simp] theorem State.setSticky_ch1 (s : State) (i : Nat) : (s.setSticky i).ch1 = s.ch1 := rfl
@[simp] theorem State.setSticky_pins (s : State) (i : Nat) : (s.setSticky i).pins = s.pins := rfl
@[simp] theorem State.setSticky_bus (s : State) (i : Nat) : (s.setSticky i).bus = s.bus := rfl
@[simp] theorem State.setSticky_rxb (s : State) (i : Nat) : (s.setSticky i).rxb = s.rxb := rfl
@[simp] theorem State.setSticky_env (s : State) (i : Nat) : (s.setSticky i).env = s.env := rfl
@[simp] theorem State.setSticky_rdata (s : State) (i : Nat) : (s.setSticky i).rdata = s.rdata := rfl
@[simp] theorem State.setSticky_phase (s : State) (i : Nat) : (s.setSticky i).phase = s.phase := rfl
@[simp] theorem State.setSticky_freeCtr (s : State) (i : Nat) : (s.setSticky i).freeCtr = s.freeCtr := rfl

/-! ## raiseError -/

@[simp] theorem raiseError_par (e : ErrKind) (k : BitVec 4) (s : State) : (raiseError e k s).par = s.par := rfl
@[simp] theorem raiseError_clk (e : ErrKind) (k : BitVec 4) (s : State) : (raiseError e k s).clk = s.clk := rfl
@[simp] theorem raiseError_cnt (e : ErrKind) (k : BitVec 4) (s : State) : (raiseError e k s).cnt = s.cnt := rfl
@[simp] theorem raiseError_link (e : ErrKind) (k : BitVec 4) (s : State) : (raiseError e k s).link = s.link := rfl
@[simp] theorem raiseError_hb (e : ErrKind) (k : BitVec 4) (s : State) : (raiseError e k s).hb = s.hb := rfl
@[simp] theorem raiseError_vel (e : ErrKind) (k : BitVec 4) (s : State) : (raiseError e k s).vel = s.vel := rfl
@[simp] theorem raiseError_tlm (e : ErrKind) (k : BitVec 4) (s : State) : (raiseError e k s).tlm = s.tlm := rfl
@[simp] theorem raiseError_lat (e : ErrKind) (k : BitVec 4) (s : State) : (raiseError e k s).lat = s.lat := rfl
@[simp] theorem raiseError_codec (e : ErrKind) (k : BitVec 4) (s : State) : (raiseError e k s).codec = s.codec := rfl
@[simp] theorem raiseError_utx (e : ErrKind) (k : BitVec 4) (s : State) : (raiseError e k s).utx = s.utx := rfl
@[simp] theorem raiseError_urx (e : ErrKind) (k : BitVec 4) (s : State) : (raiseError e k s).urx = s.urx := rfl
@[simp] theorem raiseError_ch0 (e : ErrKind) (k : BitVec 4) (s : State) : (raiseError e k s).ch0 = s.ch0 := rfl
@[simp] theorem raiseError_ch1 (e : ErrKind) (k : BitVec 4) (s : State) : (raiseError e k s).ch1 = s.ch1 := rfl
@[simp] theorem raiseError_pins (e : ErrKind) (k : BitVec 4) (s : State) : (raiseError e k s).pins = s.pins := rfl
@[simp] theorem raiseError_bus (e : ErrKind) (k : BitVec 4) (s : State) : (raiseError e k s).bus = s.bus := rfl
@[simp] theorem raiseError_rxb (e : ErrKind) (k : BitVec 4) (s : State) : (raiseError e k s).rxb = s.rxb := rfl
@[simp] theorem raiseError_env (e : ErrKind) (k : BitVec 4) (s : State) : (raiseError e k s).env = s.env := rfl
@[simp] theorem raiseError_rdata (e : ErrKind) (k : BitVec 4) (s : State) : (raiseError e k s).rdata = s.rdata := rfl
@[simp] theorem raiseError_phase (e : ErrKind) (k : BitVec 4) (s : State) : (raiseError e k s).phase = s.phase := rfl
@[simp] theorem raiseError_freeCtr (e : ErrKind) (k : BitVec 4) (s : State) : (raiseError e k s).freeCtr = s.freeCtr := rfl

/-! ## clearSticky -/

@[simp] theorem clearSticky_par (v : Word) (s : State) : (clearSticky v s).par = s.par := rfl
@[simp] theorem clearSticky_clk (v : Word) (s : State) : (clearSticky v s).clk = s.clk := rfl
@[simp] theorem clearSticky_cnt (v : Word) (s : State) : (clearSticky v s).cnt = s.cnt := rfl
@[simp] theorem clearSticky_link (v : Word) (s : State) : (clearSticky v s).link = s.link := rfl
@[simp] theorem clearSticky_hb (v : Word) (s : State) : (clearSticky v s).hb = s.hb := rfl
@[simp] theorem clearSticky_vel (v : Word) (s : State) : (clearSticky v s).vel = s.vel := rfl
@[simp] theorem clearSticky_tlm (v : Word) (s : State) : (clearSticky v s).tlm = s.tlm := rfl
@[simp] theorem clearSticky_lat (v : Word) (s : State) : (clearSticky v s).lat = s.lat := rfl
@[simp] theorem clearSticky_codec (v : Word) (s : State) : (clearSticky v s).codec = s.codec := rfl
@[simp] theorem clearSticky_utx (v : Word) (s : State) : (clearSticky v s).utx = s.utx := rfl
@[simp] theorem clearSticky_urx (v : Word) (s : State) : (clearSticky v s).urx = s.urx := rfl
@[simp] theorem clearSticky_ch0 (v : Word) (s : State) : (clearSticky v s).ch0 = s.ch0 := rfl
@[simp] theorem clearSticky_ch1 (v : Word) (s : State) : (clearSticky v s).ch1 = s.ch1 := rfl
@[simp] theorem clearSticky_pins (v : Word) (s : State) : (clearSticky v s).pins = s.pins := rfl
@[simp] theorem clearSticky_bus (v : Word) (s : State) : (clearSticky v s).bus = s.bus := rfl
@[simp] theorem clearSticky_rxb (v : Word) (s : State) : (clearSticky v s).rxb = s.rxb := rfl
@[simp] theorem clearSticky_env (v : Word) (s : State) : (clearSticky v s).env = s.env := rfl
@[simp] theorem clearSticky_rdata (v : Word) (s : State) : (clearSticky v s).rdata = s.rdata := rfl
@[simp] theorem clearSticky_phase (v : Word) (s : State) : (clearSticky v s).phase = s.phase := rfl
@[simp] theorem clearSticky_freeCtr (v : Word) (s : State) : (clearSticky v s).freeCtr = s.freeCtr := rfl

/-! ## clearErrCode -/

@[simp] theorem clearErrCode_par (s : State) : (clearErrCode s).par = s.par := rfl
@[simp] theorem clearErrCode_clk (s : State) : (clearErrCode s).clk = s.clk := rfl
@[simp] theorem clearErrCode_cnt (s : State) : (clearErrCode s).cnt = s.cnt := rfl
@[simp] theorem clearErrCode_link (s : State) : (clearErrCode s).link = s.link := rfl
@[simp] theorem clearErrCode_hb (s : State) : (clearErrCode s).hb = s.hb := rfl
@[simp] theorem clearErrCode_vel (s : State) : (clearErrCode s).vel = s.vel := rfl
@[simp] theorem clearErrCode_tlm (s : State) : (clearErrCode s).tlm = s.tlm := rfl
@[simp] theorem clearErrCode_lat (s : State) : (clearErrCode s).lat = s.lat := rfl
@[simp] theorem clearErrCode_codec (s : State) : (clearErrCode s).codec = s.codec := rfl
@[simp] theorem clearErrCode_utx (s : State) : (clearErrCode s).utx = s.utx := rfl
@[simp] theorem clearErrCode_urx (s : State) : (clearErrCode s).urx = s.urx := rfl
@[simp] theorem clearErrCode_ch0 (s : State) : (clearErrCode s).ch0 = s.ch0 := rfl
@[simp] theorem clearErrCode_ch1 (s : State) : (clearErrCode s).ch1 = s.ch1 := rfl
@[simp] theorem clearErrCode_pins (s : State) : (clearErrCode s).pins = s.pins := rfl
@[simp] theorem clearErrCode_bus (s : State) : (clearErrCode s).bus = s.bus := rfl
@[simp] theorem clearErrCode_rxb (s : State) : (clearErrCode s).rxb = s.rxb := rfl
@[simp] theorem clearErrCode_env (s : State) : (clearErrCode s).env = s.env := rfl
@[simp] theorem clearErrCode_rdata (s : State) : (clearErrCode s).rdata = s.rdata := rfl
@[simp] theorem clearErrCode_phase (s : State) : (clearErrCode s).phase = s.phase := rfl
@[simp] theorem clearErrCode_freeCtr (s : State) : (clearErrCode s).freeCtr = s.freeCtr := rfl

/-! ## discard -/

@[simp] theorem discard_par (k : Nat) (s : State) : (discard k s).par = s.par := rfl
@[simp] theorem discard_clk (k : Nat) (s : State) : (discard k s).clk = s.clk := rfl
@[simp] theorem discard_ctl (k : Nat) (s : State) : (discard k s).ctl = s.ctl := rfl
@[simp] theorem discard_link (k : Nat) (s : State) : (discard k s).link = s.link := rfl
@[simp] theorem discard_hb (k : Nat) (s : State) : (discard k s).hb = s.hb := rfl
@[simp] theorem discard_vel (k : Nat) (s : State) : (discard k s).vel = s.vel := rfl
@[simp] theorem discard_tlm (k : Nat) (s : State) : (discard k s).tlm = s.tlm := rfl
@[simp] theorem discard_lat (k : Nat) (s : State) : (discard k s).lat = s.lat := rfl
@[simp] theorem discard_utx (k : Nat) (s : State) : (discard k s).utx = s.utx := rfl
@[simp] theorem discard_urx (k : Nat) (s : State) : (discard k s).urx = s.urx := rfl
@[simp] theorem discard_ch0 (k : Nat) (s : State) : (discard k s).ch0 = s.ch0 := rfl
@[simp] theorem discard_ch1 (k : Nat) (s : State) : (discard k s).ch1 = s.ch1 := rfl
@[simp] theorem discard_pins (k : Nat) (s : State) : (discard k s).pins = s.pins := rfl
@[simp] theorem discard_bus (k : Nat) (s : State) : (discard k s).bus = s.bus := rfl
@[simp] theorem discard_rxb (k : Nat) (s : State) : (discard k s).rxb = s.rxb := rfl
@[simp] theorem discard_env (k : Nat) (s : State) : (discard k s).env = s.env := rfl
@[simp] theorem discard_rdata (k : Nat) (s : State) : (discard k s).rdata = s.rdata := rfl
@[simp] theorem discard_phase (k : Nat) (s : State) : (discard k s).phase = s.phase := rfl
@[simp] theorem discard_freeCtr (k : Nat) (s : State) : (discard k s).freeCtr = s.freeCtr := rfl

/-! ## consume -/

@[simp] theorem consume_par (n : Nat) (s : State) : (consume n s).par = s.par := rfl
@[simp] theorem consume_clk (n : Nat) (s : State) : (consume n s).clk = s.clk := rfl
@[simp] theorem consume_ctl (n : Nat) (s : State) : (consume n s).ctl = s.ctl := rfl
@[simp] theorem consume_cnt (n : Nat) (s : State) : (consume n s).cnt = s.cnt := rfl
@[simp] theorem consume_link (n : Nat) (s : State) : (consume n s).link = s.link := rfl
@[simp] theorem consume_hb (n : Nat) (s : State) : (consume n s).hb = s.hb := rfl
@[simp] theorem consume_vel (n : Nat) (s : State) : (consume n s).vel = s.vel := rfl
@[simp] theorem consume_tlm (n : Nat) (s : State) : (consume n s).tlm = s.tlm := rfl
@[simp] theorem consume_lat (n : Nat) (s : State) : (consume n s).lat = s.lat := rfl
@[simp] theorem consume_utx (n : Nat) (s : State) : (consume n s).utx = s.utx := rfl
@[simp] theorem consume_urx (n : Nat) (s : State) : (consume n s).urx = s.urx := rfl
@[simp] theorem consume_ch0 (n : Nat) (s : State) : (consume n s).ch0 = s.ch0 := rfl
@[simp] theorem consume_ch1 (n : Nat) (s : State) : (consume n s).ch1 = s.ch1 := rfl
@[simp] theorem consume_pins (n : Nat) (s : State) : (consume n s).pins = s.pins := rfl
@[simp] theorem consume_bus (n : Nat) (s : State) : (consume n s).bus = s.bus := rfl
@[simp] theorem consume_rxb (n : Nat) (s : State) : (consume n s).rxb = s.rxb := rfl
@[simp] theorem consume_env (n : Nat) (s : State) : (consume n s).env = s.env := rfl
@[simp] theorem consume_rdata (n : Nat) (s : State) : (consume n s).rdata = s.rdata := rfl
@[simp] theorem consume_phase (n : Nat) (s : State) : (consume n s).phase = s.phase := rfl
@[simp] theorem consume_freeCtr (n : Nat) (s : State) : (consume n s).freeCtr = s.freeCtr := rfl

/-! ## State.busTaken -/

@[simp] theorem State.busTaken_par (s : State) : (s.busTaken).par = s.par := rfl
@[simp] theorem State.busTaken_clk (s : State) : (s.busTaken).clk = s.clk := rfl
@[simp] theorem State.busTaken_ctl (s : State) : (s.busTaken).ctl = s.ctl := rfl
@[simp] theorem State.busTaken_cnt (s : State) : (s.busTaken).cnt = s.cnt := rfl
@[simp] theorem State.busTaken_link (s : State) : (s.busTaken).link = s.link := rfl
@[simp] theorem State.busTaken_hb (s : State) : (s.busTaken).hb = s.hb := rfl
@[simp] theorem State.busTaken_vel (s : State) : (s.busTaken).vel = s.vel := rfl
@[simp] theorem State.busTaken_tlm (s : State) : (s.busTaken).tlm = s.tlm := rfl
@[simp] theorem State.busTaken_lat (s : State) : (s.busTaken).lat = s.lat := rfl
@[simp] theorem State.busTaken_codec (s : State) : (s.busTaken).codec = s.codec := rfl
@[simp] theorem State.busTaken_utx (s : State) : (s.busTaken).utx = s.utx := rfl
@[simp] theorem State.busTaken_urx (s : State) : (s.busTaken).urx = s.urx := rfl
@[simp] theorem State.busTaken_ch0 (s : State) : (s.busTaken).ch0 = s.ch0 := rfl
@[simp] theorem State.busTaken_ch1 (s : State) : (s.busTaken).ch1 = s.ch1 := rfl
@[simp] theorem State.busTaken_pins (s : State) : (s.busTaken).pins = s.pins := rfl
@[simp] theorem State.busTaken_rxb (s : State) : (s.busTaken).rxb = s.rxb := rfl
@[simp] theorem State.busTaken_env (s : State) : (s.busTaken).env = s.env := rfl
@[simp] theorem State.busTaken_rdata (s : State) : (s.busTaken).rdata = s.rdata := rfl
@[simp] theorem State.busTaken_freeCtr (s : State) : (s.busTaken).freeCtr = s.freeCtr := rfl

/-! ## recordSent -/

@[simp] theorem recordSent_par (v w : F32) (s : State) : (recordSent v w s).par = s.par := rfl
@[simp] theorem recordSent_clk (v w : F32) (s : State) : (recordSent v w s).clk = s.clk := rfl
@[simp] theorem recordSent_ctl (v w : F32) (s : State) : (recordSent v w s).ctl = s.ctl := rfl
@[simp] theorem recordSent_cnt (v w : F32) (s : State) : (recordSent v w s).cnt = s.cnt := rfl
@[simp] theorem recordSent_vel (v w : F32) (s : State) : (recordSent v w s).vel = s.vel := rfl
@[simp] theorem recordSent_tlm (v w : F32) (s : State) : (recordSent v w s).tlm = s.tlm := rfl
@[simp] theorem recordSent_lat (v w : F32) (s : State) : (recordSent v w s).lat = s.lat := rfl
@[simp] theorem recordSent_codec (v w : F32) (s : State) : (recordSent v w s).codec = s.codec := rfl
@[simp] theorem recordSent_utx (v w : F32) (s : State) : (recordSent v w s).utx = s.utx := rfl
@[simp] theorem recordSent_urx (v w : F32) (s : State) : (recordSent v w s).urx = s.urx := rfl
@[simp] theorem recordSent_ch0 (v w : F32) (s : State) : (recordSent v w s).ch0 = s.ch0 := rfl
@[simp] theorem recordSent_ch1 (v w : F32) (s : State) : (recordSent v w s).ch1 = s.ch1 := rfl
@[simp] theorem recordSent_pins (v w : F32) (s : State) : (recordSent v w s).pins = s.pins := rfl
@[simp] theorem recordSent_bus (v w : F32) (s : State) : (recordSent v w s).bus = s.bus := rfl
@[simp] theorem recordSent_rxb (v w : F32) (s : State) : (recordSent v w s).rxb = s.rxb := rfl
@[simp] theorem recordSent_env (v w : F32) (s : State) : (recordSent v w s).env = s.env := rfl
@[simp] theorem recordSent_rdata (v w : F32) (s : State) : (recordSent v w s).rdata = s.rdata := rfl
@[simp] theorem recordSent_phase (v w : F32) (s : State) : (recordSent v w s).phase = s.phase := rfl
@[simp] theorem recordSent_freeCtr (v w : F32) (s : State) : (recordSent v w s).freeCtr = s.freeCtr := rfl

/-! ## busReadPhase -/

@[simp] theorem busReadPhase_par (a : Word) (s : State) : (busReadPhase a s).par = s.par := rfl
@[simp] theorem busReadPhase_clk (a : Word) (s : State) : (busReadPhase a s).clk = s.clk := rfl
@[simp] theorem busReadPhase_ctl (a : Word) (s : State) : (busReadPhase a s).ctl = s.ctl := rfl
@[simp] theorem busReadPhase_cnt (a : Word) (s : State) : (busReadPhase a s).cnt = s.cnt := rfl
@[simp] theorem busReadPhase_link (a : Word) (s : State) : (busReadPhase a s).link = s.link := rfl
@[simp] theorem busReadPhase_hb (a : Word) (s : State) : (busReadPhase a s).hb = s.hb := rfl
@[simp] theorem busReadPhase_vel (a : Word) (s : State) : (busReadPhase a s).vel = s.vel := rfl
@[simp] theorem busReadPhase_tlm (a : Word) (s : State) : (busReadPhase a s).tlm = s.tlm := rfl
@[simp] theorem busReadPhase_lat (a : Word) (s : State) : (busReadPhase a s).lat = s.lat := rfl
@[simp] theorem busReadPhase_codec (a : Word) (s : State) : (busReadPhase a s).codec = s.codec := rfl
@[simp] theorem busReadPhase_utx (a : Word) (s : State) : (busReadPhase a s).utx = s.utx := rfl
@[simp] theorem busReadPhase_urx (a : Word) (s : State) : (busReadPhase a s).urx = s.urx := rfl
@[simp] theorem busReadPhase_ch0 (a : Word) (s : State) : (busReadPhase a s).ch0 = s.ch0 := rfl
@[simp] theorem busReadPhase_ch1 (a : Word) (s : State) : (busReadPhase a s).ch1 = s.ch1 := rfl
@[simp] theorem busReadPhase_pins (a : Word) (s : State) : (busReadPhase a s).pins = s.pins := rfl
@[simp] theorem busReadPhase_bus (a : Word) (s : State) : (busReadPhase a s).bus = s.bus := rfl
@[simp] theorem busReadPhase_rxb (a : Word) (s : State) : (busReadPhase a s).rxb = s.rxb := rfl
@[simp] theorem busReadPhase_env (a : Word) (s : State) : (busReadPhase a s).env = s.env := rfl
@[simp] theorem busReadPhase_phase (a : Word) (s : State) : (busReadPhase a s).phase = s.phase := rfl
@[simp] theorem busReadPhase_freeCtr (a : Word) (s : State) : (busReadPhase a s).freeCtr = s.freeCtr := rfl

/-! ## Channels -/

@[simp] theorem State.ch_c0 (s : State) : s.ch .c0 = s.ch0 := rfl
@[simp] theorem State.ch_c1 (s : State) : s.ch .c1 = s.ch1 := rfl
@[simp] theorem State.setCh_c0 (s : State) (x : Channel) : s.setCh .c0 x = { s with ch0 := x } := rfl
@[simp] theorem State.setCh_c1 (s : State) (x : Channel) : s.setCh .c1 x = { s with ch1 := x } := rfl

/-- Reading a channel back after writing it. -/
@[simp] theorem State.ch_setCh (s : State) (c : Chan) (x : Channel) : (s.setCh c x).ch c = x := by cases c <;> rfl

/-- Writing one channel leaves the other. -/
theorem State.ch_setCh_ne (s : State) {c d : Chan} (x : Channel) (h : d ≠ c) : (s.setCh c x).ch d = s.ch d := by
  cases c <;> cases d <;> first | rfl | exact absurd rfl h

/-- The last write of a channel wins. -/
@[simp] theorem State.setCh_setCh (s : State) (c : Chan) (x y : Channel) : (s.setCh c x).setCh c y = s.setCh c y := by
  cases c <;> rfl

/-- Writing back what a channel holds changes nothing. -/
@[simp] theorem State.setCh_ch (s : State) (c : Chan) : s.setCh c (s.ch c) = s := by cases c <;> rfl

@[simp] theorem State.setPid_ch_cfg (s : State) (c : Chan) (x : Pid) : ((s.setPid c x).ch c).cfg = (s.ch c).cfg := by cases c <;> rfl
@[simp] theorem State.setPid_ch_pid (s : State) (c : Chan) (x : Pid) : ((s.setPid c x).ch c).pid = x := by cases c <;> rfl
@[simp] theorem State.setPid_ch_enc (s : State) (c : Chan) (x : Pid) : ((s.setPid c x).ch c).enc = (s.ch c).enc := by cases c <;> rfl
@[simp] theorem State.setPid_ch_mot (s : State) (c : Chan) (x : Pid) : ((s.setPid c x).ch c).mot = (s.ch c).mot := by cases c <;> rfl
theorem State.setPid_ch_ne (s : State) {c d : Chan} (x : Pid) (h : d ≠ c) : (s.setPid c x).ch d = s.ch d := s.ch_setCh_ne _ h
@[simp] theorem State.setEnc_ch_cfg (s : State) (c : Chan) (x : Enc) : ((s.setEnc c x).ch c).cfg = (s.ch c).cfg := by cases c <;> rfl
@[simp] theorem State.setEnc_ch_pid (s : State) (c : Chan) (x : Enc) : ((s.setEnc c x).ch c).pid = (s.ch c).pid := by cases c <;> rfl
@[simp] theorem State.setEnc_ch_enc (s : State) (c : Chan) (x : Enc) : ((s.setEnc c x).ch c).enc = x := by cases c <;> rfl
@[simp] theorem State.setEnc_ch_mot (s : State) (c : Chan) (x : Enc) : ((s.setEnc c x).ch c).mot = (s.ch c).mot := by cases c <;> rfl
theorem State.setEnc_ch_ne (s : State) {c d : Chan} (x : Enc) (h : d ≠ c) : (s.setEnc c x).ch d = s.ch d := s.ch_setCh_ne _ h
@[simp] theorem State.setMot_ch_cfg (s : State) (c : Chan) (x : Motor) : ((s.setMot c x).ch c).cfg = (s.ch c).cfg := by cases c <;> rfl
@[simp] theorem State.setMot_ch_pid (s : State) (c : Chan) (x : Motor) : ((s.setMot c x).ch c).pid = (s.ch c).pid := by cases c <;> rfl
@[simp] theorem State.setMot_ch_enc (s : State) (c : Chan) (x : Motor) : ((s.setMot c x).ch c).enc = (s.ch c).enc := by cases c <;> rfl
@[simp] theorem State.setMot_ch_mot (s : State) (c : Chan) (x : Motor) : ((s.setMot c x).ch c).mot = x := by cases c <;> rfl
theorem State.setMot_ch_ne (s : State) {c d : Chan} (x : Motor) (h : d ≠ c) : (s.setMot c x).ch d = s.ch d := s.ch_setCh_ne _ h

@[simp] theorem State.setResult_ch (s : State) (w : Word) (c : Chan) : (s.setResult w).ch c = s.ch c := by cases c <;> rfl
@[simp] theorem State.setSticky_ch (s : State) (i : Nat) (c : Chan) : (s.setSticky i).ch c = s.ch c := by cases c <;> rfl
@[simp] theorem raiseError_ch (e : ErrKind) (k : BitVec 4) (s : State) (c : Chan) : (raiseError e k s).ch c = s.ch c := by cases c <;> rfl

/-! ## The control registers -/

@[simp] theorem State.setResult_ctl_cfg (s : State) (w : Word) : (s.setResult w).ctl.cfg = s.ctl.cfg := rfl
@[simp] theorem State.setResult_ctl_sticky (s : State) (w : Word) : (s.setResult w).ctl.sticky = s.ctl.sticky := rfl
@[simp] theorem State.setResult_ctl_irqEn (s : State) (w : Word) : (s.setResult w).ctl.irqEn = s.ctl.irqEn := rfl
@[simp] theorem State.setResult_ctl_errCode (s : State) (w : Word) : (s.setResult w).ctl.errCode = s.ctl.errCode := rfl
@[simp] theorem State.setResult_ctl_errCh (s : State) (w : Word) : (s.setResult w).ctl.errCh = s.ctl.errCh := rfl
@[simp] theorem State.setResult_ctl_arg0 (s : State) (w : Word) : (s.setResult w).ctl.arg0 = s.ctl.arg0 := rfl
@[simp] theorem State.setResult_ctl_arg1 (s : State) (w : Word) : (s.setResult w).ctl.arg1 = s.ctl.arg1 := rfl
@[simp] theorem State.setResult_ctl_arg2 (s : State) (w : Word) : (s.setResult w).ctl.arg2 = s.ctl.arg2 := rfl
@[simp] theorem State.setResult_ctl_pwmTop (s : State) (w : Word) : (s.setResult w).ctl.pwmTop = s.ctl.pwmTop := rfl
@[simp] theorem State.setResult_ctl_baudDiv (s : State) (w : Word) : (s.setResult w).ctl.baudDiv = s.ctl.baudDiv := rfl
@[simp] theorem State.setResult_ctl_result (s : State) (w : Word) : (s.setResult w).ctl.result = w := rfl
@[simp] theorem State.setSticky_ctl_cfg (s : State) (i : Nat) : (s.setSticky i).ctl.cfg = s.ctl.cfg := rfl
@[simp] theorem State.setSticky_ctl_irqEn (s : State) (i : Nat) : (s.setSticky i).ctl.irqEn = s.ctl.irqEn := rfl
@[simp] theorem State.setSticky_ctl_errCode (s : State) (i : Nat) : (s.setSticky i).ctl.errCode = s.ctl.errCode := rfl
@[simp] theorem State.setSticky_ctl_errCh (s : State) (i : Nat) : (s.setSticky i).ctl.errCh = s.ctl.errCh := rfl
@[simp] theorem State.setSticky_ctl_arg0 (s : State) (i : Nat) : (s.setSticky i).ctl.arg0 = s.ctl.arg0 := rfl
@[simp] theorem State.setSticky_ctl_arg1 (s : State) (i : Nat) : (s.setSticky i).ctl.arg1 = s.ctl.arg1 := rfl
@[simp] theorem State.setSticky_ctl_arg2 (s : State) (i : Nat) : (s.setSticky i).ctl.arg2 = s.ctl.arg2 := rfl
@[simp] theorem State.setSticky_ctl_result (s : State) (i : Nat) : (s.setSticky i).ctl.result = s.ctl.result := rfl
@[simp] theorem State.setSticky_ctl_pwmTop (s : State) (i : Nat) : (s.setSticky i).ctl.pwmTop = s.ctl.pwmTop := rfl
@[simp] theorem State.setSticky_ctl_baudDiv (s : State) (i : Nat) : (s.setSticky i).ctl.baudDiv = s.ctl.baudDiv := rfl
@[simp] theorem raiseError_ctl_cfg (e : ErrKind) (k : BitVec 4) (s : State) : (raiseError e k s).ctl.cfg = s.ctl.cfg := rfl
@[simp] theorem raiseError_ctl_irqEn (e : ErrKind) (k : BitVec 4) (s : State) : (raiseError e k s).ctl.irqEn = s.ctl.irqEn := rfl
@[simp] theorem raiseError_ctl_arg0 (e : ErrKind) (k : BitVec 4) (s : State) : (raiseError e k s).ctl.arg0 = s.ctl.arg0 := rfl
@[simp] theorem raiseError_ctl_arg1 (e : ErrKind) (k : BitVec 4) (s : State) : (raiseError e k s).ctl.arg1 = s.ctl.arg1 := rfl
@[simp] theorem raiseError_ctl_arg2 (e : ErrKind) (k : BitVec 4) (s : State) : (raiseError e k s).ctl.arg2 = s.ctl.arg2 := rfl
@[simp] theorem raiseError_ctl_result (e : ErrKind) (k : BitVec 4) (s : State) : (raiseError e k s).ctl.result = s.ctl.result := rfl
@[simp] theorem raiseError_ctl_pwmTop (e : ErrKind) (k : BitVec 4) (s : State) : (raiseError e k s).ctl.pwmTop = s.ctl.pwmTop := rfl
@[simp] theorem raiseError_ctl_baudDiv (e : ErrKind) (k : BitVec 4) (s : State) : (raiseError e k s).ctl.baudDiv = s.ctl.baudDiv := rfl
@[simp] theorem raiseError_ctl_errCode (e : ErrKind) (k : BitVec 4) (s : State) : (raiseError e k s).ctl.errCode = e.code := rfl
@[simp] theorem raiseError_ctl_errCh (e : ErrKind) (k : BitVec 4) (s : State) : (raiseError e k s).ctl.errCh = k := rfl
@[simp] theorem clearSticky_ctl_cfg (v : Word) (s : State) : (clearSticky v s).ctl.cfg = s.ctl.cfg := rfl
@[simp] theorem clearSticky_ctl_irqEn (v : Word) (s : State) : (clearSticky v s).ctl.irqEn = s.ctl.irqEn := rfl
@[simp] theorem clearSticky_ctl_errCode (v : Word) (s : State) : (clearSticky v s).ctl.errCode = s.ctl.errCode := rfl
@[simp] theorem clearSticky_ctl_errCh (v : Word) (s : State) : (clearSticky v s).ctl.errCh = s.ctl.errCh := rfl
@[simp] theorem clearSticky_ctl_arg0 (v : Word) (s : State) : (clearSticky v s).ctl.arg0 = s.ctl.arg0 := rfl
@[simp] theorem clearSticky_ctl_arg1 (v : Word) (s : State) : (clearSticky v s).ctl.arg1 = s.ctl.arg1 := rfl
@[simp] theorem clearSticky_ctl_arg2 (v : Word) (s : State) : (clearSticky v s).ctl.arg2 = s.ctl.arg2 := rfl
@[simp] theorem clearSticky_ctl_result (v : Word) (s : State) : (clearSticky v s).ctl.result = s.ctl.result := rfl
@[simp] theorem clearSticky_ctl_pwmTop (v : Word) (s : State) : (clearSticky v s).ctl.pwmTop = s.ctl.pwmTop := rfl
@[simp] theorem clearSticky_ctl_baudDiv (v : Word) (s : State) : (clearSticky v s).ctl.baudDiv = s.ctl.baudDiv := rfl
@[simp] theorem clearErrCode_ctl_cfg (s : State) : (clearErrCode s).ctl.cfg = s.ctl.cfg := rfl
@[simp] theorem clearErrCode_ctl_sticky (s : State) : (clearErrCode s).ctl.sticky = s.ctl.sticky := rfl
@[simp] theorem clearErrCode_ctl_irqEn (s : State) : (clearErrCode s).ctl.irqEn = s.ctl.irqEn := rfl
@[simp] theorem clearErrCode_ctl_arg0 (s : State) : (clearErrCode s).ctl.arg0 = s.ctl.arg0 := rfl
@[simp] theorem clearErrCode_ctl_arg1 (s : State) : (clearErrCode s).ctl.arg1 = s.ctl.arg1 := rfl
@[simp] theorem clearErrCode_ctl_arg2 (s : State) : (clearErrCode s).ctl.arg2 = s.ctl.arg2 := rfl
@[simp] theorem clearErrCode_ctl_result (s : State) : (clearErrCode s).ctl.result = s.ctl.result := rfl
@[simp] theorem clearErrCode_ctl_pwmTop (s : State) : (clearErrCode s).ctl.pwmTop = s.ctl.pwmTop := rfl
@[simp] theorem clearErrCode_ctl_baudDiv (s : State) : (clearErrCode s).ctl.baudDiv = s.ctl.baudDiv := rfl

end Sys2Proof.Machine
end

