-- ==== Sys2Proof/Laws/Ops.lean ====
section
/-! SUPPORT. One lemma for each shared operation that says everything it can do, and the small lemmas of the float order
and of the decoder's loop. -/

namespace Sys2Proof.Machine

open Sys2Proof

/-! ## Fields of words -/

/-- Bit i of a placed field. -/
@[simp] theorem getLsbD_place (w : Nat) {n : Nat} (x : BitVec n) (pos i : Nat) :
    (place w x pos).getLsbD i = (decide (i < w) && decide (pos ≤ i) && x.getLsbD (i - pos)) := by
  unfold place
  rw [BitVec.getLsbD_shiftLeft, BitVec.getLsbD_setWidth]
  by_cases h1 : i < w <;> by_cases h2 : pos ≤ i
  · have h3 : i - pos < w := by omega
    have h4 : ¬ i < pos := by omega
    simp [h1, h2, h3, h4]
  · have h4 : i < pos := by omega
    simp [h2, h4]
  · simp [h1]
  · simp [h1]

/-- Bit i of a placed flag. -/
@[simp] theorem getLsbD_flag (w : Nat) (b : Bool) (pos i : Nat) :
    (flag w b pos).getLsbD i = (decide (i < w) && decide (i = pos) && b) := by
  unfold flag
  rw [getLsbD_place]
  by_cases h : i = pos
  · subst h; cases b <;> simp
  · by_cases h2 : pos ≤ i
    · have h3 : 1 ≤ i - pos := by omega
      simp [h, BitVec.getLsbD_of_ge _ _ h3]
    · simp [h, h2]

/-! ## Commands: roles, channels, operands -/

/-- A role check runs the operation in its role and reports 0x03 in the other. -/
theorem inRole_cases (r : Role) (s f : State) :
    (s.par.role = r ∧ inRole r s f = f) ∨
    (s.par.role ≠ r ∧ inRole r s f = raiseError .cmdWrongRole 0#4 s) := by
  unfold inRole
  split <;> simp_all

/-- A channel operation runs on its channel at CONTROLLER, and reports the first failing check otherwise. -/
theorem onChannel_cases (ch : BitVec 4) (s : State) (f : Chan → State) :
    (s.par.role = .controller ∧ ∃ c, Chan.ofField ch = some c ∧ onChannel ch s f = f c) ∨
    (s.par.role = .controller ∧ Chan.ofField ch = none ∧ onChannel ch s f = raiseError .cmdBadChannel 0#4 s) ∨
    (s.par.role ≠ .controller ∧ onChannel ch s f = raiseError .cmdWrongRole 0#4 s) := by
  unfold onChannel inRole
  by_cases h : s.par.role = .controller
  · cases hc : Chan.ofField ch <;> simp [h]
  · simp [h]

/-- The channel field of a channel names it. -/
@[simp] theorem Chan.ofField_field (c : Chan) : Chan.ofField c.field = some c := by cases c <;> rfl

/-- A field that names a channel is that channel's field. -/
theorem Chan.field_of_ofField {ch : BitVec 4} {c : Chan} (h : Chan.ofField ch = some c) : ch = c.field := by
  revert h; revert c; revert ch; decide

/-- A CH field names a channel exactly when it is 0 or 1. -/
theorem Chan.ofField_isSome (ch : BitVec 4) : (Chan.ofField ch).isSome = decide (ch.toNat < 2) := by
  revert ch; decide

/-- An operand check passes the operation on, or reports 0x05. -/
theorem needFinite_cases (a : F32) (k : BitVec 4) (s f : State) :
    (finite a = true ∧ needFinite a k s f = f) ∨
    (finite a = false ∧ needFinite a k s f = raiseError .argNonfinite k s) := by
  unfold needFinite
  cases finite a <;> simp

/-- A range check passes the operation on, or reports 0x06. -/
theorem needRange_cases (ok : Bool) (k : BitVec 4) (s f : State) :
    (ok = true ∧ needRange ok k s f = f) ∨ (ok = false ∧ needRange ok k s f = raiseError .argRange k s) := by
  unfold needRange
  cases ok <;> simp

/-! ## The error report -/

/-- `raiseError` changes ERR_CODE and the sticky bits, and nothing else. -/
theorem raiseError_eq (e : ErrKind) (k : BitVec 4) (s : State) :
    raiseError e k s = { s with ctl := { s.ctl with
      errCode := e.code, errCh := k, sticky := s.ctl.sticky ||| BitVec.ofNat 20 (2 ^ e.statusBit) } } := rfl

/-- Bit i of a one-bit mask. -/
theorem getLsbD_bitMask (n i : Nat) (h : i < 20) : (BitVec.ofNat 20 (2 ^ n)).getLsbD i = decide (n = i) := by
  rw [BitVec.getLsbD_ofNat, Nat.testBit_two_pow]
  simp [h]

/-- A report keeps every sticky bit that was set. -/
theorem raiseError_sticky_mono (e : ErrKind) (k : BitVec 4) (s : State) (i : Nat)
    (h : s.ctl.sticky.getLsbD i = true) : (raiseError e k s).ctl.sticky.getLsbD i = true := by
  rw [raiseError_eq]; simp [h]

/-- Every status bit of a condition is one of the 20. -/
theorem ErrKind.statusBit_lt (e : ErrKind) : e.statusBit < 20 := by
  cases e <;> simp [ErrKind.statusBit]
  rename_i c; cases c <;> simp [Chan.index]

/-- A report sets the condition's own status bit. -/
theorem raiseError_sticky_self (e : ErrKind) (k : BitVec 4) (s : State) :
    (raiseError e k s).ctl.sticky.getLsbD e.statusBit = true := by
  rw [raiseError_eq]
  have h := getLsbD_bitMask e.statusBit e.statusBit e.statusBit_lt
  simp only [BitVec.getLsbD_or, h]
  simp

/-! ## The float order and the clamp -/

/-- A clamp gives its lower bound, its upper bound, or a value below neither test. -/
theorem fclamp_cases (x lo hi : F32) :
    (flt x lo = true ∧ fclamp x lo hi = lo) ∨
    (flt x lo = false ∧ fgt x hi = true ∧ fclamp x lo hi = hi) ∨
    (flt x lo = false ∧ fgt x hi = false ∧ fclamp x lo hi = x) := by
  unfold fclamp
  cases flt x lo <;> cases fgt x hi <;> simp

/-- A comparison that is true has no NaN operand. -/
theorem flt_not_nan {a b : F32} (h : flt a b = true) : isnan a = false ∧ isnan b = false := by
  unfold flt at h
  simp only [Bool.and_eq_true, Bool.not_eq_true'] at h
  exact ⟨h.1.1, h.1.2⟩

/-- Comparison of values that are not NaN is comparison of keys. -/
theorem flt_iff {a b : F32} (ha : isnan a = false) (hb : isnan b = false) : flt a b = true ↔ fKey a < fKey b := by
  simp [flt, ha, hb]

/-- A finite value is no NaN. -/
theorem isnan_of_finite {a : F32} (h : finite a = true) : isnan a = false := by
  simp only [finite, bne_iff_ne, ne_eq] at h
  simp [isnan, h]

/-- Flipping the sign twice gives the value back. -/
@[simp] theorem fneg_fneg (a : F32) : fneg (fneg a) = a := by
  simp [fneg]

/-- `fadd` of a NaN is a NaN encoding. -/
theorem fadd_nan {a b : F32} (h : (isnan a || isnan b) = true) : fadd a b = qNaN := by simp [fadd, h]

/-- `fmul` of a NaN is a NaN encoding. -/
theorem fmul_nan {a b : F32} (h : (isnan a || isnan b) = true) : fmul a b = qNaN := by simp [fmul, h]

/-- `fdiv` of a NaN is a NaN encoding. -/
theorem fdiv_nan {a b : F32} (h : (isnan a || isnan b) = true) : fdiv a b = qNaN := by simp [fdiv, h]

/-- The generated NaN is a NaN. -/
@[simp] theorem isnan_qNaN : isnan qNaN = true := by decide

/-- Rounding never gives more than the bits of infinity. -/
theorem roundBits_le (num den : Nat) : roundBits num den ≤ infBits := by
  unfold roundBits; exact Nat.min_le_right _ _

/-! ## Codec -/

/-- `enqueue` drops a frame while down, queues it whole, or reports 0x15. -/
theorem enqueue_cases (f : List Byte) (s : State) :
    (s.link.state = .down ∧ s.canEnqueue f = false ∧ enqueue f s = s) ∨
    (s.link.state = .up ∧ f.length > Config.txCap - s.codec.txq.length ∧ s.canEnqueue f = false ∧
      enqueue f s = raiseError .txFifoOverflow 0#4 s) ∨
    (s.link.state = .up ∧ f.length ≤ Config.txCap - s.codec.txq.length ∧ s.canEnqueue f = true ∧
      enqueue f s = { s with
        codec := { s.codec with txq := s.codec.txq ++ f }
        cnt := { s.cnt with txFrame := s.cnt.txFrame + 1#32 } }) := by
  unfold enqueue State.canEnqueue State.linkUp
  cases hl : s.link.state with
  | down => exact .inl ⟨rfl, by simp, by simp⟩
  | up =>
    by_cases hf : f.length > Config.txCap - s.codec.txq.length
    · exact .inr (.inl ⟨rfl, hf, by simp only [decide_eq_false (Nat.not_le.mpr hf)]; simp, by simp [hf]⟩)
    · have hle := Nat.not_lt.mp hf
      exact .inr (.inr ⟨rfl, hle, by simp [hle], by simp [hf]⟩)

/-- `accept` counts the frame and queues it, or reports 0x14. -/
theorem acceptFrame_cases (f : Frame) (s : State) :
    (s.codec.rxq.length = Config.rxFrameCap ∧
      acceptFrame f s = raiseError .rxFifoOverflow 0#4 { s with cnt := { s.cnt with rxOk := s.cnt.rxOk + 1#32 } }) ∨
    (s.codec.rxq.length ≠ Config.rxFrameCap ∧
      acceptFrame f s = { s with
        cnt := { s.cnt with rxOk := s.cnt.rxOk + 1#32 }
        codec := { s.codec with rxq := s.codec.rxq ++ [f] } }) := by
  unfold acceptFrame
  by_cases h : s.codec.rxq.length = Config.rxFrameCap <;> simp [h]

/-- `popFrame` leaves an empty queue alone, and stores the head of another. -/
theorem popFrame_cases (s : State) :
    (s.codec.rxq = [] ∧ popFrame s = s) ∨
    (∃ f q, s.codec.rxq = f :: q ∧
      popFrame s = storeFrame f.payload { s with codec := { s.codec with rxq := q } }) := by
  unfold popFrame
  cases h : s.codec.rxq with
  | nil => exact .inl ⟨rfl, rfl⟩
  | cons f q => exact .inr ⟨f, q, rfl, rfl⟩

/-- `storeFrame` writes the role's latch and nothing else. -/
theorem storeFrame_cases (p : List Byte) (s : State) :
    (s.par.role = .controller ∧ ∃ v, storeFrame p s = { s with vel := v }) ∨
    (s.par.role = .host ∧ ∃ l, storeFrame p s = { s with lat := l }) := by
  unfold storeFrame
  cases s.par.role with
  | controller => exact .inl ⟨rfl, _, rfl⟩
  | host => exact .inr ⟨rfl, _, rfl⟩

/-- The start search never drops more than there is. -/
theorem findStart_lt {buf : List Byte} {i : Nat} (h : findStart buf = some i) : i + 1 < buf.length := by
  induction buf generalizing i with
  | nil => simp [findStart] at h
  | cons a r ih =>
    simp only [findStart] at h
    split at h
    · rename_i hc
      cases r with
      | nil => simp at hc
      | cons b r' => simp only [Option.some.injEq] at h; subst h; simp
    · cases hr : findStart r with
      | none => simp [hr] at h
      | some j =>
        have hj := ih hr
        simp only [hr, Option.map_some, Option.some.injEq] at h
        subst h; simp only [List.length_cons]; omega

/-- A verdict on a valid frame covers at least its header. -/
theorem judge_valid {r : Role} {cw : SumWidth} {buf p : List Byte} {id : Byte} {n : Nat}
    (h : judge r cw buf = .valid id p n) : 5 ≤ n ∧ n ≤ buf.length := by
  unfold judge at h
  split at h
  · rename_i a b id' hi lo body
    dsimp only at h
    split_ifs at h with h1 h2 h3 h4
    simp only [ScanVerdict.valid.injEq] at h
    obtain ⟨_, _, rfl⟩ := h
    simp only [List.length_cons]
    omega
  · exact absurd h (by simp)

/-- A verdict other than waiting needs a header. -/
theorem judge_ne_wait {r : Role} {cw : SumWidth} {buf : List Byte} (h : judge r cw buf ≠ .wait) : 5 ≤ buf.length := by
  unfold judge at h
  split at h
  · simp
  · exact absurd rfl h

/-- One iteration of the scanner touches the codec, the link counters and the error report only. -/
theorem scanIter_frame (s : State) :
    ∃ cd cn ct, (scanIter s).1 = { s with codec := cd, cnt := cn, ctl := ct } := by
  unfold scanIter
  dsimp only
  split
  · exact ⟨_, _, _, rfl⟩
  · split
    · exact ⟨_, _, _, rfl⟩
    · exact ⟨_, _, _, rfl⟩
    · exact ⟨_, _, _, rfl⟩
    · exact ⟨_, _, _, rfl⟩
    · rename_i id payload n _
      rcases acceptFrame_cases { id := id, payload := payload } (discard (searchDrop s.codec.rxbuf) s) with ⟨_, e⟩ | ⟨_, e⟩ <;>
        rw [e] <;> exact ⟨_, _, _, rfl⟩

/-- The scanner's loop touches the codec, the link counters and the error report only. -/
theorem scanLoop_frame (n : Nat) (s : State) :
    ∃ cd cn ct, scanLoop n s = { s with codec := cd, cnt := cn, ctl := ct } := by
  induction n generalizing s with
  | zero => exact ⟨_, _, _, rfl⟩
  | succ n ih =>
    obtain ⟨a, b, c, h⟩ := scanIter_frame s
    simp only [scanLoop]
    split
    · obtain ⟨a', b', c', h'⟩ := ih (scanIter s).1
      rw [h', h]; exact ⟨_, _, _, rfl⟩
    · rw [h]; exact ⟨_, _, _, rfl⟩

/-- Byte arrival touches the codec, the link counters and the error report only. -/
theorem deliver_frame (b : Byte) (s : State) :
    ∃ cd cn ct, deliver b s = { s with codec := cd, cnt := cn, ctl := ct } := by
  unfold deliver
  split
  · exact scanLoop_frame _ _
  · exact ⟨_, _, _, rfl⟩

/-- So does the arrival of several bytes. -/
theorem deliverAll_frame (bs : List Byte) (s : State) :
    ∃ cd cn ct, deliverAll bs s = { s with codec := cd, cnt := cn, ctl := ct } := by
  induction bs generalizing s with
  | nil => exact ⟨_, _, _, rfl⟩
  | cons b bs ih =>
    obtain ⟨a, b', c, h⟩ := deliver_frame b s
    obtain ⟨a', b'', c', h'⟩ := ih (deliver b s)
    simp only [deliverAll]
    rw [h', h]; exact ⟨_, _, _, rfl⟩

/-- While the link is down arriving bytes are ignored. -/
theorem deliverAll_down (bs : List Byte) (s : State) (h : s.link.state = .down) : deliverAll bs s = s := by
  induction bs with
  | nil => rfl
  | cons b bs ih => simp [deliverAll, deliver, h, ih]

/-- Bytes delivered one after the other. -/
theorem deliverAll_append (as bs : List Byte) (s : State) :
    deliverAll (as ++ bs) s = deliverAll bs (deliverAll as s) := by
  induction as generalizing s with
  | nil => rfl
  | cons a as ih => simp [deliverAll, ih]

/-- The arrival of several bytes is a fold over them. -/
theorem deliverAll_eq_foldl (bs : List Byte) (s : State) : deliverAll bs s = bs.foldl (fun x b => deliver b x) s := by
  induction bs generalizing s with
  | nil => rfl
  | cons b bs ih => simp [deliverAll, ih]

/-- Every iteration of the scanner that continues removes at least one byte. -/
theorem scanIter_shorter (s : State) (h : (scanIter s).2 = true) :
    (scanIter s).1.codec.rxbuf.length < s.codec.rxbuf.length := by
  have hd : (discard (searchDrop s.codec.rxbuf) s).codec.rxbuf.length ≤ s.codec.rxbuf.length := by
    simp [discard]
  have hj := @judge_ne_wait (discard (searchDrop s.codec.rxbuf) s).par.role (discard (searchDrop s.codec.rxbuf) s).rxCw
    (discard (searchDrop s.codec.rxbuf) s).codec.rxbuf
  unfold scanIter at h ⊢
  dsimp only at h ⊢
  generalize discard (searchDrop s.codec.rxbuf) s = t at *
  split at h
  · simp at h
  · rename_i hn
    simp only [hn]
    cases hv : judge t.par.role t.rxCw t.codec.rxbuf with
    | wait => simp [hv] at h
    | unknownId => rw [hv] at hj; simp [rejectId, discard, raiseError_eq] at hj ⊢; omega
    | badLength => rw [hv] at hj; simp [rejectLength, discard, raiseError_eq] at hj ⊢; omega
    | badSum => rw [hv] at hj; simp [rejectSum, discard, raiseError_eq] at hj ⊢; omega
    | valid id p n =>
      have hb := judge_valid hv
      rcases acceptFrame_cases { id := id, payload := p } t with ⟨_, e⟩ | ⟨_, e⟩ <;>
        simp [consume, e, raiseError_eq] <;> omega

/-! ## The receiver and the stale condition -/

/-- A receiver cycle while the link is down does nothing. -/
theorem rxCycle_down (s : State) (h : s.link.state = .down) : rxCycle s = s := by simp [rxCycle, h]

/-- A receiver cycle while the link is up, by the receiver's state. -/
theorem rxCycle_up (s : State) (h : s.link.state = .up) :
    rxCycle s = match s.urx.state with
      | .idle => if s.urx.sync2 then s else { s with urx := { s.urx with state := .busy, t := 1, div := s.baud } }
      | .busy => rxBusy s
      | .waitHigh => if s.urx.sync2 then { s with urx := { s.urx with state := .idle } } else s := by
  unfold rxCycle
  exact (if_neg (by simp [h])).trans (by cases s.urx.state <;> rfl)

/-- The sample point of bit k (R234). -/
theorem sampleBit_at (div k : Nat) (hd : 0 < div) (hk : k ≤ 9) : sampleBit (k * div + div / 2) div = some k := by
  unfold sampleBit
  rw [List.find?_eq_some_iff_getElem]
  refine ⟨by simp, k, by simp; omega, by simp, fun j hj => ?_⟩
  have hlt : j * div < k * div := Nat.mul_lt_mul_of_pos_right hj hd
  simp only [List.getElem_range, Bool.not_eq_true', beq_eq_false_iff_ne, ne_eq]
  omega

/-- No sample is due where no bit's sample point stands. -/
theorem sampleBit_none (t div : Nat) (h : ∀ k, k ≤ 9 → t ≠ k * div + div / 2) : sampleBit t div = none := by
  unfold sampleBit
  simp only [List.find?_eq_none, List.mem_range, beq_iff_eq]
  exact fun k hk => h k (by omega)

/-- A BUSY cycle delivers the byte, reports a framing error, or moves the receiver's own registers only. -/
theorem rxBusy_cases (s : State) :
    (sampleBit s.urx.t s.urx.div = some 9 ∧ s.urx.sync2 = true ∧
      rxBusy s = deliver s.urx.shift { s with urx := rxBusyNext (some 9) s.urx }) ∨
    (sampleBit s.urx.t s.urx.div = some 9 ∧ s.urx.sync2 = false ∧
      rxBusy s = framingError { s with urx := rxBusyNext (some 9) s.urx }) ∨
    (sampleBit s.urx.t s.urx.div ≠ some 9 ∧
      rxBusy s = { s with urx := rxBusyNext (sampleBit s.urx.t s.urx.div) s.urx }) := by
  by_cases hk : sampleBit s.urx.t s.urx.div = some 9
  · cases hs : s.urx.sync2
    · exact .inr (.inl ⟨hk, rfl, by simp [rxBusy, hk, hs]⟩)
    · exact .inl ⟨hk, rfl, by simp [rxBusy, hk, hs]⟩
  · exact .inr (.inr ⟨hk, by simp [rxBusy, hk]⟩)

/-- The transmitter loads the head of `txq` with a copy of DIV, or changes nothing. -/
theorem txLoad_cases (s : State) :
    (∃ b q, s.codec.txq = b :: q ∧ s.utx.busy = false ∧ s.link.state = .up ∧
      txLoad s = { s with
        codec := { s.codec with txq := q }
        utx := { s.utx with busy := true, byte := b, idx := 0, cnt := 0, div := s.baud } }) ∨
    ((s.codec.txq = [] ∨ s.utx.busy = true ∨ s.link.state = .down) ∧ txLoad s = s) := by
  unfold txLoad
  cases hq : s.codec.txq with
  | nil => exact .inr ⟨.inl rfl, rfl⟩
  | cons b q =>
    cases hb : s.utx.busy with
    | true => exact .inr ⟨.inr (.inl rfl), by simp⟩
    | false =>
      cases hl : s.link.state with
      | up => exact .inl ⟨b, q, rfl, rfl, rfl, by simp [State.linkUp, hl]⟩
      | down => exact .inr ⟨.inr (.inr rfl), by simp [State.linkUp, hl]⟩

/-- How a cycle begins: held in reset, the first one after it, or any other. -/
theorem inputsPhase_cases (s : State) :
    (s.nextIn.pins.rstN = false ∧
      inputsPhase s = { resetHeld s.nextIn.pins { shiftSyncs s with env := s.env.tail } with phase := .inputs }) ∨
    (s.nextIn.pins.rstN = true ∧ s.pins.rstN = false ∧
      inputsPhase s = { resetHeld s.nextIn.pins { shiftSyncs s with env := s.env.tail } with
        bus := s.nextIn.bus, rxb := s.nextIn.rxb }) ∨
    (s.nextIn.pins.rstN = true ∧ s.pins.rstN = true ∧
      inputsPhase s = { shiftSyncs s with
        env := s.env.tail, pins := s.nextIn.pins, bus := s.nextIn.bus, rxb := s.nextIn.rxb, phase := .time }) := by
  unfold inputsPhase
  cases hn : s.nextIn.pins.rstN with
  | false => exact .inl ⟨rfl, by simp [hn]⟩
  | true =>
    cases hp : s.pins.rstN with
    | false => exact .inr (.inl ⟨rfl, rfl, by simp [hn]⟩)
    | true => exact .inr (.inr ⟨rfl, rfl, by simp [hn]⟩)

/-- Sampling the stale condition sets STALEc or changes nothing. -/
theorem sampleStale_cases (c : Chan) (s : State) :
    (s.stale c = true ∧ sampleStale c s = s.setSticky (14 + c.index)) ∨ (s.stale c = false ∧ sampleStale c s = s) := by
  unfold sampleStale
  cases s.stale c <;> simp

/-! ## Encoder, control law, motor loop -/

/-- `enc_update` takes a sample when one is due, and changes nothing otherwise. -/
theorem encUpdate_cases (c : Chan) (s : State) :
    (s.sampleDue c = true ∧ encUpdate c s = s.setEnc c (sampleEnc s.now (s.ch c).cfg (s.ch c).enc)) ∨
    (s.sampleDue c = false ∧ encUpdate c s = s) := by
  unfold encUpdate
  cases s.sampleDue c <;> simp

/-- A full window drops its oldest sample before it takes another, so it never grows past its capacity. -/
theorem windowAppend_length (w : List Sample) (x : Sample) (h : w.length ≤ Config.winCap) :
    (windowAppend w x).length ≤ Config.winCap := by
  unfold windowAppend
  split
  · simp only [List.length_append, List.length_drop, List.length_singleton]
    simp only [Config.winCap] at *; omega
  · rename_i hne
    simp only [List.length_append, List.length_singleton]
    simp only [Config.winCap] at *; omega

/-- Eviction never lengthens a window. -/
theorem windowEvict_length (now wms : Word) (w : List Sample) : (windowEvict now wms w).length ≤ w.length :=
  (List.dropWhile_sublist _).length_le

/-- `pid_eval` faults, or stores the law's new state and perhaps sets SATc. -/
theorem pidEval_cases (c : Chan) (t m d : F32) (s : State) :
    (s.pidFaults c t m d = true ∧ pidEval c t m d s = numFault c s) ∨
    (s.pidFaults c t m d = false ∧ ∃ sat : Bool,
      sat = ((pidStored (s.ch c).cfg (s.ch c).pid t m d).satMin || (pidStored (s.ch c).cfg (s.ch c).pid t m d).satMax) ∧
      pidEval c t m d s =
        if sat then (s.setPid c (pidStored (s.ch c).cfg (s.ch c).pid t m d)).setSticky (16 + c.index)
        else s.setPid c (pidStored (s.ch c).cfg (s.ch c).pid t m d)) := by
  unfold pidEval
  cases h : s.pidFaults c t m d with
  | true => exact .inl ⟨rfl, by simp⟩
  | false => exact .inr ⟨rfl, _, rfl, by simp⟩

/-- An edge detector does nothing without an edge; with one it changes the encoder, and draws a free value only when the
pins raced. -/
theorem edgeDetect_cases (c : Chan) (s : State) :
    ((s.ch c).enc.aSync2 = (s.ch c).enc.aSeen ∧ edgeDetect c s = s) ∨
    ((s.ch c).enc.aSync2 ≠ (s.ch c).enc.aSeen ∧ (s.ch c).enc.raced = true ∧
      edgeDetect c s =
        { s.setEnc c (takeEdge s.now (Config.tickDraw s.freeCtr) (s.ch c).enc) with freeCtr := s.freeCtr + 1 }) ∨
    ((s.ch c).enc.aSync2 ≠ (s.ch c).enc.aSeen ∧ (s.ch c).enc.raced = false ∧
      edgeDetect c s =
        s.setEnc c (takeEdge s.now (if edgeUp (s.ch c).cfg (s.ch c).enc then .up else .down) (s.ch c).enc)) := by
  unfold edgeDetect edgeDraw
  by_cases h : (s.ch c).enc.aSync2 = (s.ch c).enc.aSeen
  · exact .inl ⟨h, by simp [h]⟩
  · cases hr : (s.ch c).enc.raced with
    | true => exact .inr (.inl ⟨h, rfl, by simp [h, hr]⟩)
    | false => exact .inr (.inr ⟨h, rfl, by simp [h, hr]⟩)

/-! ## The bus -/

/-- A register write is ignored, rejected or stored. -/
theorem writeReg_cases (r : Reg) (v : Word) (s : State) :
    (r.present s.par.role = false ∧ writeReg r v s = s) ∨
    (r.present s.par.role = true ∧ legalWrite r v s = false ∧ writeReg r v s = raiseError .cfgReject 0#4 s) ∨
    (r.present s.par.role = true ∧ legalWrite r v s = true ∧ writeReg r v s = storeReg r v s) := by
  unfold writeReg
  cases r.present s.par.role <;> cases legalWrite r v s <;> simp

/-- The link controller's cycle: down on a fault, then an attempt if one is due. -/
theorem linkCycle_eq (s : State) :
    linkCycle s =
      (if (if s.linkUp && s.pins.ioFault then goDown s else s).attemptDue
       then attempt (if s.linkUp && s.pins.ioFault then goDown s else s)
       else (if s.linkUp && s.pins.ioFault then goDown s else s)) := rfl

/-! ## The step -/

/-- Every instruction answers a next state. -/
theorem exec_next (i : Instr) (s : State) : ∃ t, exec i s = .next t := by
  cases i <;> exact ⟨_, rfl⟩

/-- What one step does, by the agent whose turn it is. -/
theorem step_cases (s : State) :
    (s.phase = .inputs ∧ step s = .next (inputsPhase s)) ∨
    (s.phase = .time ∧ step s = .next (timePhase s)) ∨
    (s.phase = .link ∧ step s = .next (linkPhase s)) ∨
    (s.phase = .enc ∧ step s = .next (encPhase s)) ∨
    (s.phase = .rx ∧ s.rxb = [] ∧ step s = .next (rxPinPhase s)) ∨
    (s.phase = .rx ∧ ∃ b rest, s.rxb = b :: rest ∧
      ((s.nextFrame = none ∧ step s = .next (rxBytePhase b rest s)) ∨
       (∃ i after, s.nextFrame = some (i, after) ∧ step s = exec i { s with rxb := after }))) ∨
    (s.phase = .tx ∧ step s = .next (txPhase s)) ∨
    (s.phase = .pwm ∧ step s = .next (pwmPhase s)) ∨
    (s.phase = .bus ∧
      ((busOp s.bus = .nothing ∧ step s = .next s.busTaken) ∨
       (∃ a, busOp s.bus = .read a ∧ step s = .next (busReadPhase a s.busTaken)) ∨
       (∃ r v, busOp s.bus = .store r v ∧ step s = .next (writeReg r v s.busTaken)) ∨
       (∃ w, busOp s.bus = .command w ∧
         ((∃ i, decodeCmd w = .ok i ∧ step s = exec i s.busTaken) ∨
          (∃ e, decodeCmd w = .error e ∧
            step s = .next (raiseError (rejectKind s.par.role e) 0#4 s.busTaken)))))) ∨
    (s.phase = .stale ∧ step s = .next (stalePhase s)) := by
  cases hp : s.phase with
  | inputs => simp [step, hp]
  | time => simp [step, hp]
  | link => simp [step, hp]
  | enc => simp [step, hp]
  | rx =>
    cases hb : s.rxb with
    | nil => simp [step, hp, rxPhase, hb]
    | cons b rest =>
      cases hn : s.nextFrame with
      | none => simp [step, hp, rxPhase, hb, hn]
      | some x => obtain ⟨i, after⟩ := x; simp [step, hp, rxPhase, hb, hn]
  | tx => simp [step, hp]
  | pwm => simp [step, hp]
  | bus =>
    cases hb : busOp s.bus with
    | nothing => simp [step, hp, busPhase, hb]
    | read a => simp [step, hp, busPhase, hb]
    | store r v => simp [step, hp, busPhase, hb]
    | command w =>
      cases hd : decodeCmd w with
      | ok i => simp [step, hp, busPhase, hb, runCommand, hd]
      | error e => simp [step, hp, busPhase, hb, runCommand, hd, State.busTaken]
  | stale => simp [step, hp]

end Sys2Proof.Machine
end

