-- ==== Sys2Proof/Laws/PerInstr.lean ====
section
/-! SUPPORT. The per-instruction family EncodeShape: what every encoding looks like (R90, R100). -/

namespace Sys2Proof.Laws

open Sys2Proof

/-- A command's word has bits 31:12 zero (R90); a frame begins with START1 START2 and its MSG_ID (R100, R105). -/
def EncodeShape.Statement (i : Instr) : Prop :=
  match encode i with
  | .command w => w.extractLsb' 12 20 = 0#20
  | .frame bs => bs.take 2 = [0xAA#8, 0x55#8] ∧ (bs[2]? = some 0x01#8 ∨ bs[2]? = some 0x02#8)

/-- The word of an operation and a channel has bits 31:12 zero. -/
theorem cmdWord_reserved (op : Byte) (ch : BitVec 4) : (cmdWord op ch).extractLsb' 12 20 = 0#20 := by
  ext i hi
  have h1 : 8 ≤ 12 + i := by omega
  have h2 : 4 ≤ 12 + i - 8 := by omega
  simp [cmdWord, Machine.place, BitVec.getLsbD_of_ge _ _ h1, BitVec.getLsbD_of_ge _ _ h2]

theorem EncodeShape.nop : EncodeShape.Statement .nop := cmdWord_reserved _ _
theorem EncodeShape.setTarget (ch : BitVec 4) : EncodeShape.Statement (.setTarget ch) := cmdWord_reserved _ _
theorem EncodeShape.step (ch : BitVec 4) : EncodeShape.Statement (.step ch) := cmdWord_reserved _ _
theorem EncodeShape.brake (ch : BitVec 4) : EncodeShape.Statement (.brake ch) := cmdWord_reserved _ _
theorem EncodeShape.pidReset (ch : BitVec 4) : EncodeShape.Statement (.pidReset ch) := cmdWord_reserved _ _
theorem EncodeShape.pidCompute (ch : BitVec 4) : EncodeShape.Statement (.pidCompute ch) := cmdWord_reserved _ _
theorem EncodeShape.encUpdate (ch : BitVec 4) : EncodeShape.Statement (.encUpdate ch) := cmdWord_reserved _ _
theorem EncodeShape.encReset (ch : BitVec 4) : EncodeShape.Statement (.encReset ch) := cmdWord_reserved _ _
theorem EncodeShape.txCmdFrame : EncodeShape.Statement .txCmdFrame := cmdWord_reserved _ _
theorem EncodeShape.txTlmFrame : EncodeShape.Statement .txTlmFrame := cmdWord_reserved _ _
theorem EncodeShape.rxPop : EncodeShape.Statement .rxPop := cmdWord_reserved _ _
theorem EncodeShape.codecReset : EncodeShape.Statement .codecReset := cmdWord_reserved _ _
theorem EncodeShape.linkStep : EncodeShape.Statement .linkStep := cmdWord_reserved _ _
theorem EncodeShape.softReset : EncodeShape.Statement .softReset := cmdWord_reserved _ _
theorem EncodeShape.velCmd (p : VelWire) (ck : Checksum) : EncodeShape.Statement (.velCmd p ck) := ⟨rfl, .inl rfl⟩
theorem EncodeShape.telemetry (p : TlmWire) (ck : Checksum) : EncodeShape.Statement (.telemetry p ck) :=
  ⟨rfl, .inr rfl⟩

end Sys2Proof.Laws
end

