-- ==== Sys2Proof/Tests/Slice0.lean ====
section
/-! SUPPORT. The author's own tests, each a named theorem: the WellFormed smoke test, the decoding of words written out from
the spec, the vectors of 95_test_vectors.md (named in each comment) on single steps, and for every statement with
hypotheses a witness that meets them. -/

namespace Sys2Proof.Tests

open Sys2Proof Sys2Proof.Machine Sys2Proof.Spec

set_option maxRecDepth 20000
set_option exponentiation.threshold 400

/-! ## Small states -/

/-- A CONTROLLER right after power-on. -/
def ctrl : State := State.reset

/-- A HOST right after power-on. -/
def host : State := State.powerOn { role := .host, msDiv := 1 } Pins.quiet

/-- The operand registers hold these words. -/
def args (a b c : Word) (s : State) : State := { s with ctl := { s.ctl with arg0 := a, arg1 := b, arg2 := c } }

/-- TIME_MS is t. -/
def atMs (t : Word) (s : State) : State := { s with clk := { s.clk with timeMs := t } }

/-- The bus is next, with this access. -/
def acc (a : BusAccess) (s : State) : State := { s with phase := .bus, bus := some a }

/-- Channel 0 with this configuration. -/
def conf (g : ChanCfg) (s : State) : State := { s with ch0 := { s.ch0 with cfg := g } }

/-- The next state of an outcome. -/
def nextOr (d : State) : Host.Outcome State Fault Refusal → State
  | .next t => t
  | .fault _ => d
  | .refused _ => d

/-- Run one instruction. -/
def run (i : Instr) (s : State) : State := nextOr s (exec i s)

/-- Make one step. -/
def go (s : State) : State := nextOr s (step s)

/-- The frame F of EX-1, `AA 55 01 00 08 3F 9D 70 A4 BE E6 66 66 69`. -/
def frameF : List Byte :=
  [0xAA#8, 0x55#8, 0x01#8, 0x00#8, 0x08#8, 0x3F#8, 0x9D#8, 0x70#8, 0xA4#8, 0xBE#8, 0xE6#8, 0x66#8, 0x66#8, 0x69#8]

/-- The velocity of EX-1 on the wire. -/
def velF : VelWire := { linear := 0x3F9D70A4#32, angular := 0xBEE66666#32 }

/-- An all-zero telemetry payload on the wire. -/
def tlmZero : TlmWire :=
  { rpmLeft := 0#32, rpmRight := 0#32, battery := 0#32, accelX := 0#32, accelY := 0#32, accelZ := 0#32, gyroX := 0#32,
    gyroY := 0#32, gyroZ := 0#32, echoLinear := 0#32, echoAngular := 0#32, flags := 0x0006#16 }

/-- The configuration of the vectors PID-1 and MOT-6. -/
def gains : ChanCfg :=
  { ChanCfg.atReset with kp := 0x3A83126F#32, kff := 0x3B03126F#32, ffOffset := 0x3D4CCCCD#32,
                         slewMax := 0x3DCCCCCD#32, dutyMax := 0x3F800000#32, tpr := 20#32 }

/-- MOT-6's start: armed at 0 with +200.0, two forward ticks counted, t = 50. -/
def armed : State :=
  let s := atMs 50#32 (conf gains ctrl)
  { s with ch0 := { s.ch0 with enc := { s.ch0.enc with count := 2#32 }, mot := { s.ch0.mot with target := 0x43480000#32 } } }

/-! ## WellFormed: an ill-formed term for the one check -/

theorem test_wellFormed_refuses :
    Instr.wellFormed (.setTarget 2#4) = false ∧ Instr.wellFormed (.step 5#4) = false ∧
    Instr.wellFormed (.brake 15#4) = false ∧ Instr.wellFormed (.pidReset 2#4) = false ∧
    Instr.wellFormed (.pidCompute 8#4) = false ∧ Instr.wellFormed (.encUpdate 3#4) = false ∧
    Instr.wellFormed (.encReset 4#4) = false := by decide

theorem test_wellFormed_accepts :
    Instr.wellFormed (.step 0#4) = true ∧ Instr.wellFormed (.step 1#4) = true ∧ Instr.wellFormed .nop = true ∧
    Instr.wellFormed (.velCmd velF (.sum8 0#8)) = true := by decide

/-! ## Decoding: words written out from R90 and R91, bytes from R100 to R105 -/

theorem test_decode_nop : decodeCmd 0b00000000000000000000000000000000#32 = .ok .nop := by decide
theorem test_decode_setTarget : decodeCmd 0b00000000000000000000000100000001#32 = .ok (.setTarget 1#4) := by decide
theorem test_decode_step : decodeCmd 0b00000000000000000000000000000010#32 = .ok (.step 0#4) := by decide
theorem test_decode_brake : decodeCmd 0b00000000000000000000000100000011#32 = .ok (.brake 1#4) := by decide
theorem test_decode_pidReset : decodeCmd 0b00000000000000000000000000000100#32 = .ok (.pidReset 0#4) := by decide
theorem test_decode_pidCompute : decodeCmd 0b00000000000000000000000100000101#32 = .ok (.pidCompute 1#4) := by decide
theorem test_decode_encUpdate : decodeCmd 0b00000000000000000000000000000110#32 = .ok (.encUpdate 0#4) := by decide
theorem test_decode_encReset : decodeCmd 0b00000000000000000000000100000111#32 = .ok (.encReset 1#4) := by decide
theorem test_decode_txCmdFrame : decodeCmd 0b00000000000000000000000000010000#32 = .ok .txCmdFrame := by decide
theorem test_decode_txTlmFrame : decodeCmd 0b00000000000000000000000000010001#32 = .ok .txTlmFrame := by decide
theorem test_decode_rxPop : decodeCmd 0b00000000000000000000000000010010#32 = .ok .rxPop := by decide
theorem test_decode_codecReset : decodeCmd 0b00000000000000000000000000010011#32 = .ok .codecReset := by decide
theorem test_decode_linkStep : decodeCmd 0b00000000000000000000000000100000#32 = .ok .linkStep := by decide
theorem test_decode_softReset : decodeCmd 0b00000000000000000000000001111111#32 = .ok .softReset := by decide

/-- EX-1 step 1: the bytes of F. -/
theorem test_decode_velCmd : decodeFrame .one .one frameF = .ok (.velCmd velF (.sum8 0x69#8), []) := by decide

/-- EX-1 step 5: the two-byte checksum `04 69`. -/
theorem test_decode_velCmd_wide : decodeFrame .two .one (frameF.take 13 ++ [0x04#8, 0x69#8]) =
    .ok (.velCmd velF (.sum16 0x0469#16), []) := by decide

/-- COD-16: `AA 55 02 00 2E`, 44 zero bytes, `00 06`, `36`. -/
theorem test_decode_telemetry :
    decodeFrame .one .one ([0xAA#8, 0x55#8, 0x02#8, 0x00#8, 0x2E#8] ++ List.replicate 44 0#8 ++ [0x00#8, 0x06#8, 0x36#8]) =
    .ok (.telemetry tlmZero (.sum8 0x36#8), []) := by decide

/-- DSP-1 to DSP-4, DSP-7, DSP-8: the rejected words and the check that rejects each. -/
theorem test_decode_rejects :
    decodeCmd 0x00001000#32 = .error .reservedBits ∧ decodeCmd 0x00001208#32 = .error .reservedBits ∧
    decodeCmd 0x00000008#32 = .error .unknownOp ∧ decodeCmd 0x00000208#32 = .error .unknownOp ∧
    decodeCmd 0x00000201#32 = .error (.badChannel (.setTarget 2#4)) ∧
    decodeCmd 0x00000100#32 = .error (.badChannel .nop) := by decide

/-- COD-7's header and an identifier of R106. -/
theorem test_decode_frame_rejects :
    decodeFrame .one .one [0xAA#8, 0x55#8, 0x01#8, 0x00#8, 0x04#8] = .error .badLength ∧
    decodeFrame .one .one [0xAA#8, 0x55#8, 0x03#8, 0x00#8, 0x08#8] = .error .unknownId ∧
    decodeFrame .one .one (frameF.take 13) = .error .tooShort ∧
    decodeFrame .one .one (frameF.drop 1) = .error .noStart := by decide

/-- The table's numbering: STEP of channel 0, and the header of VEL_CMD as R109's 40-bit integer. -/
theorem test_decode_table :
    decodeTableWord 32 0x002 = some (.step 0#4) ∧
    decodeTableWord 40 0xAA55010008 = some (.velCmd { linear := 0#32, angular := 0#32 } (.sum8 0#8)) := by decide

/-! ## Reset and the bus -/

theorem test_reset_good : State.reset.good = true := by decide

/-- RST-1: STATUS, BAUD_DIV, PWM_TOP and CH0.MCFG after power-on; DSP-23: an unlisted offset. -/
theorem test_reset_reads :
    busRead 0x008#32 ctrl = 0x00080800#32 ∧ busRead 0x030#32 ctrl = 868#32 ∧ busRead 0x02C#32 ctrl = 0xFFF#32 ∧
    busRead 0x200#32 ctrl = 4#32 ∧ busRead 0x07C#32 ctrl = 0#32 ∧ busRead 0x204#32 host = 0#32 ∧
    busRead 0x004#32 host = 1#32 := by decide

/-- DSP-17, DSP-16 and DSP-26. -/
theorem test_bus_writes :
    busRead 0x030#32 (go (acc (wr 0x030#32 0x00010002#32) ctrl)) = 2#32 ∧
    busRead 0x010#32 (go (acc (wr 0x030#32 1#32) ctrl)) = 0x07#32 ∧
    busRead 0x004#32 (go (acc (wr 0x004#32 0xFFFFFFFF#32) ctrl)) = 0xE#32 := by decide

/-- DSP-5 and DSP-6: a wrong role is reported before a wrong channel. -/
theorem test_wrong_role :
    busRead 0x010#32 (go (acc (wr 0x018#32 0x010#32) ctrl)) = 0x03#32 ∧
    busRead 0x010#32 (go (acc (wr 0x018#32 0x201#32) host)) = 0x03#32 := by decide

/-- A placed word runs in the next step: BRAKE of channel 1. -/
theorem test_fetch_command : (go (State.reset.withFetchWord 32 0x103)).ch1.mot.brake = true := by decide

/-- A placed frame header is followed by a zero payload and a zero checksum, which the decoder rejects (0x01 + 0x08 is
not 0): code 0x10. -/
theorem test_fetch_frame : (go (State.reset.withFetchWord 40 0xAA55010008)).ctl.errCode = 0x10#8 := by decide

/-! ## Instructions -/

/-- DSP-9. -/
theorem test_nop : run .nop ctrl = ctrl := by decide

/-- MOT-1: SET_TARGET c0, -120.0 at t = 400. -/
theorem test_setTarget :
    let t := run (.setTarget 0#4) (atMs 400#32 (args 0xC2F00000#32 0#32 0#32 ctrl))
    t.ch0.mot.target = 0x42F00000#32 ∧ t.mstat .c0 &&& 0x0F#8 = 0x0B#8 ∧ t.ch0.mot.lastStepMs = 400#32 := by decide

/-- MOT-10 and MOT-17: -0.0 stops, and a stopped channel keeps its ticks. -/
theorem test_setTarget_zero :
    (run (.setTarget 0#4) (args 0x80000000#32 0#32 0#32 armed)).ch0.mot.target = 0#32 ∧
    (run (.setTarget 0#4) (args 0#32 0#32 0#32
      { armed with ch0 := { armed.ch0 with mot := { armed.ch0.mot with target := 0#32 } } })).ch0.enc.count = 2#32 := by
  decide

/-- MOT-6. -/
theorem test_step :
    let t := run (.step 0#4) armed
    t.ctl.result = 1#32 ∧ t.ch0.enc.rpm = 0x42F00000#32 ∧ t.ch0.pid.lastOut = 0x3DCCCCCD#32 ∧
    t.ch0.mot.lastDtMs = 50#32 := by decide

/-- MOT-15: the fault stops the channel. -/
theorem test_step_fault :
    let s := conf { ChanCfg.atReset with kp := 0x7F61B1E6#32, kd := 0xFF61B1E6#32, slewMax := 0x3F800000#32,
                                         dutyMax := 0x3F800000#32 } (atMs 20#32 ctrl)
    let t := run (.step 0#4) { s with ch0 := { s.ch0 with mot := { s.ch0.mot with target := 0x42480000#32 } } }
    t.ctl.result = 3#32 ∧ t.ch0.mot.target = 0#32 ∧ t.ctl.errCode = 0x20#8 ∧ t.ch0.mot.lastStepMs = 20#32 := by decide

/-- MOT-11. -/
theorem test_brake :
    let t := run (.brake 0#4) armed
    t.ch0.mot.target = 0#32 ∧ t.ch0.mot.pwmCmp = 0#17 ∧ t.ch0.mot.brake = true ∧ t.ch0.enc.count = 0#32 := by decide

/-- PID-13: NUM_FAULT is kept. -/
theorem test_pidReset :
    let s := { ctrl with ch0 := { ctrl.ch0 with pid :=
      { integral := 0x41480000#32, lastErr := 0xC0400000#32, lastOut := 0x3ECCCCCD#32, satMin := false, satMax := true,
        numFault := true } } }
    (run (.pidReset 0#4) s).ch0.pid = { Pid.atReset with numFault := true } := by decide

/-- PID-1. -/
theorem test_pidCompute :
    let g := { ChanCfg.atReset with mcfg := 0#4, kp := 0x3C23D70A#32, slewMax := 0x3F800000#32, dutyMax := 0x3F800000#32 }
    let t := run (.pidCompute 0#4) (args 0x42480000#32 0#32 0x3CA3D70A#32 (conf g ctrl))
    t.ctl.result = 0x3F000000#32 ∧ t.ch0.pid.integral = 0x3F800000#32 ∧ t.ch0.pid.lastErr = 0x42480000#32 := by decide

/-- PID-12: the smallest dt makes the law fault with every gain 0. -/
theorem test_pidCompute_fault :
    let g := { ChanCfg.atReset with slewMax := 0x3F800000#32, dutyMax := 0x3F800000#32 }
    let t := run (.pidCompute 0#4) (args 0x42480000#32 0#32 0x00000001#32 (conf g ctrl))
    t.ctl.result = 0#32 ∧ t.ctl.errCode = 0x20#8 ∧ t.ch0.pid.numFault = true := by decide

/-- ENC-7: 7 backward ticks in 100 ms. -/
theorem test_encUpdate :
    let s := conf { ChanCfg.atReset with tpr := 20#32 } (atMs 100#32 ctrl)
    (run (.encUpdate 0#4) { s with ch0 := { s.ch0 with enc := { s.ch0.enc with count := 0xFFFFFFF9#32 } } }).ctl.result =
      0xC351FFFF#32 := by decide

/-- ENC-18. -/
theorem test_encReset :
    let t := run (.encReset 0#4) (atMs 900#32 armed)
    t.ch0.enc.count = 0#32 ∧ t.ch0.enc.lastUpdMs = 900#32 ∧ t.ch0.enc.lastEdgeMs = 0#32 := by decide

/-- EX-1 step 1. -/
theorem test_txCmdFrame :
    let t := run .txCmdFrame (args 0x3F9D70A4#32 0xBEE66666#32 0#32 host)
    t.codec.txq = frameF ∧ t.ctl.result = 1#32 := by decide

/-- COD-16. -/
theorem test_txTlmFrame :
    (run .txTlmFrame (atMs 601#32 ctrl)).codec.txq =
      [0xAA#8, 0x55#8, 0x02#8, 0x00#8, 0x2E#8] ++ List.replicate 44 0#8 ++ [0x00#8, 0x06#8, 0x36#8] := by decide

/-- COD-1, from the instruction's own bytes. -/
theorem test_velCmd :
    let t := run (.velCmd velF (.sum8 0x69#8)) ctrl
    t.codec.rxq.length = 1 ∧ t.cnt.rxOk = 1#32 ∧ t.cnt.rxDiscard = 0#32 ∧ t.codec.rxbuf = [] := by decide

/-- EX-2: a wrong checksum is reported and the 14 bytes discarded. -/
theorem test_velCmd_wrong_sum :
    let t := run (.velCmd velF (.sum8 0x68#8)) ctrl
    t.codec.rxq = [] ∧ t.ctl.errCode = 0x10#8 ∧ t.cnt.rxDiscard = 14#32 := by decide

/-- COD-20, first half: a HOST accepts the telemetry frame. -/
theorem test_telemetry : (run (.telemetry tlmZero (.sum8 0x36#8)) host).cnt.rxOk = 1#32 := by decide

/-- COD-6: at a CONTROLLER it is an unknown header, and its 52 bytes are discarded. -/
theorem test_telemetry_at_controller :
    let t := run (.telemetry tlmZero (.sum8 0x36#8)) ctrl
    t.ctl.errCode = 0x12#8 ∧ t.cnt.rxDiscard = 52#32 := by decide

/-- EX-1 step 3. -/
theorem test_rxPop :
    let t := run .rxPop (deliverAll frameF ctrl)
    t.vel = { v := 0x3F9D70A4#32, w := 0xBEE66666#32, seq := 1#32 } ∧ t.ctl.result = 1#32 := by decide

/-- COD-20: the flags of the telemetry frame. -/
theorem test_rxPop_host :
    (run .rxPop (run (.telemetry tlmZero (.sum8 0x36#8)) host)).lat.flags = 0x0006#16 := by decide

/-- COD-22. -/
theorem test_codecReset :
    let t := run .codecReset (deliverAll (frameF.take 3) (deliverAll frameF ctrl))
    t.codec = Codec.atReset ∧ t.cnt.rxOk = 1#32 := by decide

/-- HB-1 and HB-7's report. -/
theorem test_linkStep :
    let s := { host with hb := { host.hb with vmax := 0x3F800000#32, wmax := 0x40000000#32, eps := 0x3C23D70A#32,
                                              cmdInV := 0x3F9D70A4#32, cmdInW := 0xBEE66666#32 } }
    let t := run .linkStep s
    t.codec.txq = [0xAA#8, 0x55#8, 0x01#8, 0x00#8, 0x08#8, 0x3F#8, 0x80#8, 0x00#8, 0x00#8, 0xBE#8, 0xE6#8, 0x66#8, 0x66#8,
                   0x38#8] ∧
    t.ctl.result = 1#32 ∧ t.hb.lastSentV = 0x3F800000#32 := by decide

/-- HB-8: VMAX = 0 sends -0. -/
theorem test_linkStep_negative_zero :
    (run .linkStep { host with hb := { host.hb with cmdInV := 0xBF000000#32 } }).hb.lastSentV = 0x80000000#32 := by decide

/-- RST-2: timestamps take the current time. -/
theorem test_softReset :
    let t := run .softReset armed
    t.clk.timeMs = 50#32 ∧ t.ch0.mot.lastStepMs = 50#32 ∧ t.ch0.enc.lastEdgeMs = 50#32 ∧ t.ch0.mot.target = 0#32 := by
  decide

/-! ## Witnesses: for each statement with hypotheses, a state and operands that meet them, at the ends of each clause -/

/-- A HOST whose link is down. -/
def downHost : State := { host with link := { host.link with state := .down } }

/-- A transmit FIFO of n zero bytes. -/
def txFull (n : Nat) (s : State) : State := { s with codec := { s.codec with txq := List.replicate n 0#8 } }

/-- `armed` at the time t. -/
def armedAt (t : Word) : State := atMs t armed

/-- PID-8's configuration, which makes the law overflow. -/
def wild : ChanCfg :=
  { ChanCfg.atReset with mcfg := 0#4, kp := 0x7F61B1E6#32, ki := 0xFF61B1E6#32, slewMax := 0x3F800000#32,
                         dutyMax := 0x3F800000#32 }

/-- A frame waits at a CONTROLLER or a HOST. -/
def waiting (s : State) : State :=
  { s with codec := { s.codec with rxq := [{ id := 0x01#8, payload := List.replicate 46 0xA5#8 }] } }

theorem witness_DecodeInvertsEncode :
    (Instr.wellFormed (.step 1#4) = true ∧ sumFits .one .one (.step 1#4)) ∧
    (Instr.wellFormed (.velCmd velF (.sum16 0xFFFF#16)) = true ∧ sumFits .two .one (.velCmd velF (.sum16 0xFFFF#16))) ∧
    (Instr.wellFormed (.telemetry tlmZero (.sum8 0#8)) = true ∧ sumFits .two .one (.telemetry tlmZero (.sum8 0#8))) :=
  ⟨⟨by decide, trivial⟩, ⟨by decide, rfl⟩, ⟨by decide, rfl⟩⟩

theorem witness_DecodedIsTheEncoding :
    decodeCmd 0x00000107#32 = .ok (.encReset 1#4) ∧
    decodeFrame .one .one (frameF ++ [0xAA#8]) = .ok (.velCmd velF (.sum8 0x69#8), [0xAA#8]) := by decide

theorem witness_StepRunsTheDecodedInstruction :
    onBus (acc (wr 0x01B#32 0x7F#32) ctrl) (wr 0x01B#32 0x7F#32) ∧ offset 0x01B#32 = 0x018 ∧
    decodeCmd 0x7F#32 = .ok .softReset ∧
    ({ ctrl with phase := .rx, rxb := frameF } : State).phase = .rx ∧
    decodeFrame (sumWidth (ctrl.ctl.cfg.getLsbD 0)) (sumWidth (ctrl.ctl.cfg.getLsbD 1)) frameF =
      .ok (.velCmd velF (.sum8 0x69#8), []) := ⟨⟨rfl, rfl⟩, by decide, by decide, rfl, by decide⟩

theorem witness_FirstFailingCheckIsReported :
    onBus (acc (wr 0x018#32 0x1000#32) ctrl) (wr 0x018#32 0x1000#32) ∧ offset 0x018#32 = 0x018 ∧
    firstFailing .controller 0x1000#32 = some .cmdReservedBits ∧ firstFailing .controller 0xFFF#32 = some .cmdUnknownOp ∧
    firstFailing .host 0x201#32 = some .cmdWrongRole ∧ firstFailing .controller 0x201#32 = some .cmdBadChannel ∧
    firstFailing .controller 0x100#32 = some .cmdBadChannel ∧ firstFailing .controller 0x101#32 = none :=
  ⟨⟨rfl, rfl⟩, by decide, by decide, by decide, by decide, by decide, by decide, by decide⟩

theorem witness_ReadsHaveNoSideEffect :
    onBus (acc (.read 0x2F7#32) ctrl) (.read 0x2F7#32) ∧ offset 0x2F4#32 = offset 0x2F7#32 ∧
    computedRead ctrl .linkStat = some 1#32 ∧ regAt 0x2F7#32 = some (.chan .c1 .lastEdgeMs) ∧ regAt 0x2F8#32 = none ∧ regAt 0x088#32 = some .heartbeatMs ∧
    Reg.present .heartbeatMs .controller = false ∧ Reg.present (.chan .c1 .lastEdgeMs) .controller = true :=
  ⟨⟨rfl, rfl⟩, by decide, by decide, by decide, by decide, by decide, by decide, by decide⟩

theorem witness_WritesReadBack :
    onBus (acc (wr 0x030#32 2#32) ctrl) (wr 0x030#32 2#32) ∧ regAt 0x030#32 = some .baudDiv ∧
    Reg.present .baudDiv .controller = true ∧ rwMask .baudDiv = some 0xFFFF#32 ∧ rejects .baudDiv 2#32 ctrl = false ∧
    rejects (.chan .c0 .dutyMin) 0x80000000#32 ctrl = false := ⟨⟨rfl, rfl⟩, by decide, by decide, by decide, by decide, by decide⟩

theorem witness_IllegalWritesAreRejected :
    onBus (acc (wr 0x030#32 1#32) ctrl) (wr 0x030#32 1#32) ∧ regAt 0x030#32 = some .baudDiv ∧
    Reg.present .baudDiv .controller = true ∧ rejects .baudDiv 1#32 ctrl = true ∧
    rejects (.chan .c0 .dutyMax) 0x3F800001#32 ctrl = true ∧ rejects (.chan .c1 .dutyMin) 0x00000001#32 ctrl = true ∧
    rejects (.chan .c0 .tpr) 0#32 ctrl = true ∧ rejects (.chan .c0 .kp) 0x7F800000#32 ctrl = true :=
  ⟨⟨rfl, rfl⟩, by decide, by decide, by decide, by decide, by decide, by decide, by decide⟩

theorem witness_IgnoredWrites :
    onBus (acc (.write 0x018#32 0x7#4 0x7F#32) ctrl) (.write 0x018#32 0x7#4 0x7F#32) ∧ (0x7#4 : BitVec 4) ≠ 0xF#4 ∧
    regAt 0x07C#32 = none ∧ regAt 0x014#32 = some .timeMs ∧ ignoresWrites .timeMs .controller ∧
    regAt 0x08C#32 = some .vmax ∧ ignoresWrites .vmax .controller ∧
    (({ ctrl with phase := .bus } : State).phase = .bus ∧ ctrl.bus = none) :=
  ⟨⟨rfl, rfl⟩, by decide, by decide, by decide, .inr (by decide), by decide, .inl (by decide), rfl, rfl⟩

theorem witness_ClearingWrites :
    onBus (acc (wr 0x00B#32 0xFFFFFFFF#32) ctrl) (wr 0x00B#32 0xFFFFFFFF#32) ∧ offset 0x00B#32 = 0x008 ∧
    onBus (acc (wr 0x010#32 0#32) ctrl) (wr 0x010#32 0#32) ∧ offset 0x010#32 = 0x010 :=
  ⟨⟨rfl, rfl⟩, by decide, ⟨rfl, rfl⟩, by decide⟩

/-- The three ways a sticky bit falls: a STATUS write, SOFT_RESET, power-on reset. -/
theorem witness_StickyBitsStaySet :
    let s := { ctrl with ctl := { ctrl.ctl with sticky := 0x00001#20 } }
    (s.ctl.sticky.getLsbD 0 = true ∧ (go (acc (wr 0x008#32 1#32) s)).ctl.sticky.getLsbD 0 = false) ∧
    (go (acc (wr 0x018#32 0x7F#32) s)).ctl.sticky.getLsbD 0 = false ∧
    (go { s with phase := .inputs, env := [{ pins := { Pins.quiet with rstN := false }, bus := none, rxb := [] }] }).ctl.sticky.getLsbD
      0 = false := by decide

/-- One cycle's inputs with `rst_n` at this level. -/
def cycleWith (rstN : Bool) : CycleIn :=
  { pins := { Pins.quiet with rstN := rstN }, bus := some (.read 0#32), rxb := [0xAA#8] }

/-- The three ways a cycle begins: in reset, right after it, and with no input listed. -/
theorem witness_PowerOnReads :
    let s := { ctrl with phase := .inputs }
    let held := { s with pins := { Pins.quiet with rstN := false }, env := [cycleWith true] }
    s.phase = .inputs ∧ (cycleInputs { s with env := [cycleWith false] }).pins.rstN = false ∧
    ((cycleInputs held).pins.rstN = true ∧ held.pins.rstN = false) ∧
    ((cycleInputs s).pins.rstN = true ∧ s.pins.rstN = true) := by decide

/-- A stale channel at the boundary of R149, and one that is not yet. -/
theorem witness_MstatBits :
    ({ ctrl with phase := .stale } : State).phase = .stale ∧ ctrl.par.role = .controller ∧ host.par.role = .host ∧
    isStale (atMs 601#32 ctrl) .c1 = true ∧ isStale (atMs 600#32 ctrl) .c1 = false := by decide

/-- A step of the clock's phase that increments, and one that does not. -/
theorem witness_OnlyTheClockMovesTime :
    ctrl.phase = .time ∧ (¬ inReset (acc (wr 0x018#32 0x7F#32) ctrl) ∧ (acc (wr 0x018#32 0x7F#32) ctrl).phase ≠ .time) ∧
    (∃ t, step { ctrl with clk := { ctrl.clk with msCnt := 100000 } } = .next t ∧ t.clk.timeMs = 1#32) ∧
    (∃ t, step { ctrl with clk := { ctrl.clk with msCnt := 99999 } } = .next t ∧ t.clk.timeMs = 0#32) ∧
    (inReset { atMs 7#32 ctrl with phase := .inputs, env := [cycleWith false] } ∧
      (go { atMs 7#32 ctrl with phase := .inputs, env := [cycleWith false] }).clk.timeMs = 0#32) :=
  ⟨rfl, ⟨fun h => absurd h.1 (by decide), by decide⟩, ⟨_, rfl, by decide⟩, ⟨_, rfl, by decide⟩, ⟨rfl, .inl rfl⟩,
    by decide⟩

theorem witness_TimeAdvancesEveryMsDivCycles : ctrl.phase = .time ∧ 0 < ctrl.par.msDiv ∧ ctrl.clk.msCnt = 0 := by decide

theorem witness_AgentsMoveInOrder :
    (∃ t, step ctrl = .next t ∧ t.phase = .link) ∧
    (∃ t, step { ctrl with phase := .rx, rxb := [0xAA#8] } = .next t ∧ t.phase = .rx) := ⟨⟨_, rfl, rfl⟩, ⟨_, rfl, rfl⟩⟩

/-- An edge of each kind: clean, broken, none. -/
theorem witness_EdgesCountTicks :
    let e := { ctrl.ch0.enc with aSeen := false, aSync1 := true, aSync2 := true }
    ({ ctrl with phase := .enc } : State).phase = .enc ∧ ctrl.par.role = .controller ∧
    (e.aSync2 ≠ e.aSeen ∧ cleanEdge e) ∧ ¬ cleanEdge { e with aSync1 := false } ∧
    ctrl.ch1.enc.aSync2 = ctrl.ch1.enc.aSeen ∧ ({ host with phase := .enc } : State).par.role = .host := by
  refine ⟨rfl, rfl, ⟨by decide, rfl, rfl, rfl, rfl, rfl⟩, fun h => by simpa using h.1, rfl, rfl⟩

theorem witness_EncUpdateResult : armed.par.role = .controller := rfl

theorem witness_EncResetResult : armed.par.role = .controller := rfl

theorem witness_PidResetResult : armed.par.role = .controller := rfl

theorem witness_BrakeResult : armed.par.role = .controller := rfl

/-- A full window and an interval just long enough. -/
theorem witness_WindowIsMaintained :
    let e := { ctrl.ch0.enc with win := List.replicate 32 { ts := 0#32, d := 0, dt := 0#32 } }
    e.win.length ≤ 32 ∧ ChanCfg.atReset.minIntervalMs.toNat ≤ ((5#32 : Word) - e.lastUpdMs).toNat ∧
    (∀ x ∈ e.win, (200#32 : Word).toNat < ((201#32 : Word) - x.ts).toNat) := by decide

theorem witness_RpmIsFinite :
    let w : List Sample := List.replicate 32 { ts := 0#32, d := -2 ^ 31, dt := 0xFFFFFFFF#32 }
    (1#32 : Word) ≠ 0#32 ∧ w.length ≤ 32 ∧ ∀ x ∈ w, -2 ^ 31 ≤ x.d ∧ x.d < 2 ^ 31 := by decide

theorem witness_PidComputeResult :
    let s := args 0x42480000#32 0#32 0x3CA3D70A#32 (conf gains ctrl)
    s.par.role = .controller ∧ finite s.ctl.arg0 = true ∧ finite s.ctl.arg1 = true ∧ finite s.ctl.arg2 = true ∧
    fgt s.ctl.arg2 0#32 = true ∧
    isnan (law s.ch0.cfg s.ch0.pid s.ctl.arg0 s.ctl.arg1 s.ctl.arg2).out = false := by decide

theorem witness_PidComputeFaults :
    let s := args 0x40000000#32 0#32 0x3F800000#32 (conf wild ctrl)
    s.par.role = .controller ∧ finite s.ctl.arg0 = true ∧ finite s.ctl.arg1 = true ∧ finite s.ctl.arg2 = true ∧
    fgt s.ctl.arg2 0#32 = true ∧ isnan (law s.ch0.cfg s.ch0.pid s.ctl.arg0 s.ctl.arg1 s.ctl.arg2).out = true := by decide

theorem witness_OperandChecks :
    finite (0x7F800000#32) = false ∧ finite (0x7FC00000#32) = false ∧ finite (0x7F7FFFFF#32) = true ∧
    (args 0x7F800000#32 0#32 0#32 ctrl).par.role = .controller ∧
    fgt (0x80000000#32) 0#32 = false ∧ finite (0x80000000#32) = true ∧ host.par.role = .host := by decide

theorem witness_DutyStaysInBounds :
    gains.legal = true ∧ wild.legal = true ∧
    (conf gains ctrl).pidFaults .c0 0x42480000#32 0#32 0x3CA3D70A#32 = false ∧
    (conf wild ctrl).pidFaults .c0 0x40000000#32 0#32 0x3F800000#32 = true := by decide

/-- PID-9: the duty moves by SLEW_MAX and 2^-26. -/
theorem witness_SlewIsBounded :
    let g := { ChanCfg.atReset with ffOffset := 0x3F800000#32, slewMax := 0x3E2D8DEF#32, dutyMax := 0x3F800000#32 }
    let p := { Pid.atReset with lastOut := 0x3E0996C8#32 }
    g.legal = true ∧ isnan p.lastOut = false ∧ flt p.lastOut g.dutyMin = false ∧ fgt p.lastOut g.dutyMax = false ∧
    isnan (pidOut g p 0#32 0#32 0x3CA3D70A#32) = false ∧
    fVal (pidOut g p 0#32 0#32 0x3CA3D70A#32) - fVal p.lastOut = fVal g.slewMax + 2 ^ 123 := by decide

/-- Encodings of each kind at the boundaries of the exponent field, and values the operations meet. -/
theorem witness_SlewIsBounded_arithmetic :
    isFiniteEnc 0xFF7FFFFF#32 ∧ isInfEnc 0xFF800000#32 ∧ isNanEnc 0x7F800001#32 ∧ exact 0x00000001#32 ≠ 0 ∧
    exact 0x80000000#32 = 0 ∧ exact 0x3F800000#32 = 1 := by
  refine ⟨by unfold isFiniteEnc; decide, by unfold isInfEnc; decide, by unfold isNanEnc; decide, ?_, ?_, ?_⟩ <;>
    norm_num [exact, magBits, show (0x3F800000#32 : BitVec 32)[31] = false from rfl]

theorem witness_SetTargetStops :
    (args 0#32 0#32 0#32 armed).par.role = .controller ∧ (args 0#32 0#32 0#32 armed).ctl.arg0 = 0#32 ∧
    (args 0x80000000#32 0#32 0#32 ctrl).ctl.arg0 = 0x80000000#32 := by decide

theorem witness_SetTargetDrives :
    let s := args 0x80000001#32 0#32 0#32 ctrl
    s.par.role = .controller ∧ finite s.ctl.arg0 = true ∧ s.ctl.arg0 ≠ 0#32 ∧ s.ctl.arg0 ≠ 0x80000000#32 := by decide

/-- MOT-2 and MOT-3: 19 ms is too soon, 20 ms runs; MOT-4: a stopped channel is skipped. -/
theorem witness_StepIsSkipped :
    ((armedAt 19#32).par.role = .controller ∧ ¬ stepRuns .c0 (armedAt 19#32)) ∧ ¬ stepRuns .c1 (armedAt 90#32) := by
  refine ⟨⟨rfl, fun h => ?_⟩, fun h => ?_⟩
  · exact absurd h.2 (by decide)
  · exact absurd h.1 (by decide)

theorem witness_StepExecutes :
    (armedAt 20#32).par.role = .controller ∧ stepRuns .c0 (armedAt 20#32) ∧
    isnan (stepLaw .c0 (armedAt 20#32)).out = false := ⟨rfl, ⟨by decide, by decide⟩, by decide⟩

theorem witness_StepFaultStops :
    (conf wild (armedAt 20#32)).par.role = .controller ∧ stepRuns .c0 (conf wild (armedAt 20#32)) ∧
    isnan (stepLaw .c0 (conf wild (armedAt 20#32))).out = true := ⟨rfl, ⟨by decide, by decide⟩, by decide⟩

theorem witness_PwmGenerator :
    ({ ctrl with phase := .pwm } : State).phase = .pwm ∧ ctrl.par.role = .controller ∧
    ({ host with phase := .pwm } : State).phase = .pwm ∧ host.par.role = .host ∧
    onBus (acc (wr 0x02C#32 0#32) ctrl) (wr 0x02C#32 0#32) ∧ offset 0x02C#32 = 0x02C :=
  ⟨rfl, rfl, rfl, rfl, ⟨rfl, rfl⟩, by decide⟩

theorem witness_PwmConvIsExact :
    (inDuty 0x3F800000#32 = true ∧ (0x3F800000#32 : F32).getLsbD 31 = false) ∧ inDuty 0x80000000#32 = true := by decide

theorem witness_PwmHighForCompareCycles :
    let m := { ctrl.ch0.mot with pwmCmp := 0x10000#17 }
    m.pwmCnt = 0 ∧ m.pwmCmp.toNat ≤ (0xFFFF#16 : BitVec 16).toNat + 1 := by decide

theorem witness_RxPopResult :
    ctrl.codec.rxq = [] ∧
    (waiting ctrl).codec.rxq = { id := 0x01#8, payload := List.replicate 46 0xA5#8 } :: [] ∧
    (waiting host).par.role = .host := by decide

/-- A frame that just fits, one that does not, and a link that is down. -/
theorem witness_TxCmdFrameResult :
    let s := args 0x3F800000#32 0x80000000#32 0#32 host
    s.par.role = .host ∧ finite s.ctl.arg0 = true ∧ finite s.ctl.arg1 = true ∧ s.link.state = .up ∧
    fits (txFull 242 s) frameF ∧ ¬ fits (txFull 243 s) frameF ∧ downHost.link.state = .down := by
  refine ⟨rfl, by decide, by decide, rfl, ?_, ?_, rfl⟩ <;> unfold fits <;> decide

theorem witness_TxTlmFrameResult :
    ctrl.par.role = .controller ∧ fits (txFull 204 ctrl) (frame false 0x02#8 (tlmBytes ctrl 0#16)) ∧
    ¬ fits (txFull 205 ctrl) (frame false 0x02#8 (tlmBytes ctrl 0#16)) := by
  refine ⟨rfl, ?_, ?_⟩ <;> unfold fits <;> decide

theorem witness_VelCmdIsAccepted :
    ctrl.par.role = .controller ∧ ctrl.link.state = .up ∧ ctrl.codec.rxbuf = [] ∧
    (Checksum.sum8 0x69#8).encode = sumBytes (csum16 ctrl 0x01#8) 0x01#8 velF.bytes ∧
    ((Checksum.sum8 0x68#8).encode.length = (if csum16 ctrl 0x01#8 then 2 else 1) ∧
      (Checksum.sum8 0x68#8).encode ≠ sumBytes (csum16 ctrl 0x01#8) 0x01#8 velF.bytes) ∧
    (host.par.role = .host ∧ host.link.state = .up ∧ host.codec.rxbuf = []) ∧ downHost.link.state = .down := by decide

theorem witness_TelemetryIsAccepted :
    host.par.role = .host ∧ host.link.state = .up ∧ host.codec.rxbuf = [] ∧
    (Checksum.sum8 0x36#8).encode = sumBytes (csum16 host 0x02#8) 0x02#8 tlmZero.bytes ∧
    ((Checksum.sum8 0x37#8).encode.length = (if csum16 host 0x02#8 then 2 else 1) ∧
      (Checksum.sum8 0x37#8).encode ≠ sumBytes (csum16 host 0x02#8) 0x02#8 tlmZero.bytes) ∧
    (ctrl.par.role = .controller ∧ ctrl.link.state = .up ∧ ctrl.codec.rxbuf = []) ∧ downHost.link.state = .down := by
  decide

theorem witness_VelocityArrivesBitExact :
    let h := txFull 241 (args 0x3F9D70A4#32 0x80000001#32 0#32 host)
    h.par.role = .host ∧ ctrl.par.role = .controller ∧ h.ctl.cfg = ctrl.ctl.cfg ∧ finite h.ctl.arg0 = true ∧
    finite h.ctl.arg1 = true ∧ h.link.state = .up ∧ h.codec.txq.length ≤ 241 ∧ ctrl.link.state = .up ∧
    ctrl.codec.rxbuf = [] ∧ ctrl.codec.rxq = [] := by decide

/-- A link of each state, and a byte at the front that begins no frame. -/
theorem witness_DecoderHoldsOnlyAFramePrefix :
    ctrl.link.state = .up ∧ host.link.state = .up ∧ downHost.link.state = .down ∧
    (({ ctrl with phase := .rx, rxb := frameF.drop 1 } : State).rxb = 0x55#8 :: frameF.drop 2 ∧
      ∀ f, decodeFrame (sumWidth (ctrl.ctl.cfg.getLsbD 0)) (sumWidth (ctrl.ctl.cfg.getLsbD 1)) (frameF.drop 1) ≠ .ok f) :=
  ⟨rfl, rfl, rfl, rfl, fun f h => by
    have hb : (decodeFrame (sumWidth (ctrl.ctl.cfg.getLsbD 0)) (sumWidth (ctrl.ctl.cfg.getLsbD 1))
      (frameF.drop 1)).toOption = none := by decide
    rw [h] at hb; exact absurd hb (by simp [Except.toOption])⟩

theorem witness_TransmitterSendsTheByte :
    let s := { ctrl with codec := { ctrl.codec with txq := [0xAA#8, 0x55#8] }, ctl := { ctrl.ctl with baudDiv := 2#16 } }
    (s.utx.busy = false ∧ s.link.state = .up ∧ s.codec.txq = 0xAA#8 :: [0x55#8] ∧ 0 < s.ctl.baudDiv.toNat) ∧
    ({ s with phase := .tx } : State).phase = .tx ∧ (txCycle s).utx.busy = true ∧
    (ctrl.utx.busy = false ∧ ctrl.codec.txq = []) ∧ (downHost.utx.busy = false ∧ downHost.link.state = .down) := by decide

theorem witness_ReceiverDeliversTheByte :
    let s := { ctrl with urx := { ctrl.urx with state := .idle }, ctl := { ctrl.ctl with baudDiv := 2#16 } }
    let busy := { s with urx := { s.urx with state := .busy, t := 1, div := 2, sync2 := true } }
    (s.link.state = .up ∧ s.urx.state = .idle ∧ 2 ≤ s.ctl.baudDiv.toNat ∧ s.urx.sync2 = true) ∧
    (busy.urx.state = .busy ∧ busy.urx.t = busy.urx.div / 2 ∧ busy.urx.sync2 = true) ∧
    (0 < busy.urx.div ∧ ∀ k, k ≤ 9 → 4 ≠ k * busy.urx.div + busy.urx.div / 2) ∧
    (3 = 1 * busy.urx.div + busy.urx.div / 2 ∧ 17 = 8 * busy.urx.div + busy.urx.div / 2 ∧
      19 = 9 * busy.urx.div + busy.urx.div / 2) ∧
    ctrl.urx.state = .waitHigh ∧ downHost.link.state = .down ∧
    (({ ctrl with phase := .rx } : State).phase = .rx ∧ ctrl.rxb = []) := by decide

/-- LNK-1 to LNK-3: the fault, an attempt one millisecond too soon, and one that is due. -/
theorem witness_LinkTransitions :
    let up := { ctrl with phase := .link }
    let down := { ctrl with phase := .link, link := { ctrl.link with state := .down, downSinceMs := 100#32 },
                            clk := { ctrl.clk with timeMs := 1100#32, msTick := true } }
    (up.phase = .link ∧ up.link.state = .up ∧ up.pins.ioFault = false ∧
      ({ up with pins := { up.pins with ioFault := true } } : State).pins.ioFault = true) ∧
    (down.link.state = .down ∧ down.clk.msTick = true ∧
      down.link.backoffMs.toNat ≤ (down.clk.timeMs - down.link.downSinceMs).toNat) ∧
    ((1099#32 : Word) - down.link.downSinceMs).toNat < down.link.backoffMs.toNat := by decide

theorem witness_LinkStepResult :
    host.par.role = .host ∧ (wantsSend host ∧ fits host (heartbeatBytes host)) ∧
    ¬ fits (txFull 243 host) (heartbeatBytes (txFull 243 host)) ∧ ¬ wantsSend downHost := by
  refine ⟨rfl, ⟨⟨rfl, .inl rfl⟩, ?_⟩, ?_, fun h => absurd h.1 (by decide)⟩
  · unfold fits; decide
  · unfold fits; decide

theorem witness_SentVelocityIsSafe :
    let s := { host with hb := { host.hb with vmax := 0x3F800000#32, wmax := 0x80000000#32, cmdInV := 0x3F800000#32, cmdInW := 0x80000000#32 } }
    s.par.role = .host ∧ legalLimit s.hb.vmax = true ∧ legalLimit s.hb.wmax = true ∧
    (run .linkStep s).ctl.result.getLsbD 0 = true ∧ finite s.hb.cmdInV = true ∧
    flt s.hb.cmdInV (fneg s.hb.vmax) = false ∧ fgt s.hb.cmdInV s.hb.vmax = false ∧ finite s.hb.cmdInW = true ∧
    flt s.hb.cmdInW (fneg s.hb.wmax) = false ∧ fgt s.hb.cmdInW s.hb.wmax = false := by decide

/-- The invariants hold in a state that steps: the armed channel of MOT-6. -/
theorem witness_invariants :
    armed.configLegal = true ∧ armed.queuesBounded = true ∧ armed.actuatorsBounded = true ∧
    armed.reportConsistent = true ∧ armed.lawNumeric = true ∧ armed.countersInRange = true ∧
    step armed = .next (timePhase armed) := ⟨by decide, by decide, by decide, by decide, by decide, by decide, rfl⟩

theorem witness_ResetIsGood : 0 < ({ role := .host, msDiv := 1 } : Params).msDiv := by decide

end Sys2Proof.Tests
end

section
/-! The binary32 arithmetic over exact rationals (R13, R14): what an encoding stands for, that one rounding of a quotient
gives the nearest encoding, that the primitives and comparisons are those of the values; and R171's slew bound from them. -/

namespace Sys2Proof.Proofs

open Sys2Proof Sys2Proof.Machine Sys2Proof.Spec

/-! ## Parts of an encoding (R13) -/

theorem fExp_eq (a : F32) : fExp a = magBits a / 2 ^ 23 := by
  simp only [fExp, magBits, BitVec.extractLsb'_toNat, Nat.shiftRight_eq_div_pow]
  omega

theorem fFrac_eq (a : F32) : fFrac a = magBits a % 2 ^ 23 := by
  simp only [fFrac, magBits, BitVec.extractLsb'_toNat, Nat.shiftRight_eq_div_pow]
  omega

theorem magBits_lt (a : F32) : magBits a < 2 ^ 31 := Nat.mod_lt _ (by norm_num)

theorem isnan_iff (a : F32) : isnan a = true ↔ isNanEnc a := by
  have := magBits_lt a
  simp only [isnan, isNanEnc, fExp_eq, fFrac_eq, Bool.and_eq_true, beq_iff_eq, bne_iff_ne]
  omega

theorem isinf_iff (a : F32) : isinf a = true ↔ isInfEnc a := by
  have := magBits_lt a
  simp only [isinf, isInfEnc, fExp_eq, fFrac_eq, Bool.and_eq_true, beq_iff_eq]
  omega

theorem finite_iff (a : F32) : finite a = true ↔ isFiniteEnc a := by
  have := magBits_lt a
  simp only [finite, isFiniteEnc, fExp_eq, bne_iff_ne]
  omega

theorem signBit_eq (a : F32) : a.getLsbD 31 = decide (2 ^ 31 ≤ a.toNat) := by
  have h := BitVec.msb_eq_decide a
  rwa [BitVec.msb_eq_getLsbD_last] at h

theorem fPack_toNat (neg : Bool) {m : Nat} (hm : m < 2 ^ 31) :
    (fPack neg m).toNat = if neg then m + 2 ^ 31 else m := by
  cases neg <;> simp [fPack] <;> omega

theorem magBits_fPack (neg : Bool) {m : Nat} (hm : m < 2 ^ 31) : magBits (fPack neg m) = m := by
  rw [magBits, fPack_toNat neg hm]
  split <;> omega

theorem signBit_fPack (neg : Bool) {m : Nat} (hm : m < 2 ^ 31) : (fPack neg m).getLsbD 31 = neg := by
  rw [signBit_eq, fPack_toNat neg hm]
  cases neg <;> simp
  omega

theorem lowBit_fPack (neg : Bool) {m : Nat} (hm : m < 2 ^ 31) : (fPack neg m).getLsbD 0 = decide (m % 2 = 1) := by
  rw [BitVec.getLsbD, Nat.testBit_zero, fPack_toNat neg hm]
  cases neg <;> simp
  omega

theorem eq_of_parts {a b : F32} (hs : a.getLsbD 31 = b.getLsbD 31) (hm : magBits a = magBits b) : a = b := by
  have ha := a.isLt
  have hb := b.isLt
  rw [signBit_eq, signBit_eq, decide_eq_decide] at hs
  unfold magBits at hm
  apply BitVec.eq_of_toNat_eq
  omega

theorem signedZero_eq (neg : Bool) : signedZero neg = fPack neg 0 := by cases neg <;> rfl

theorem signedInf_eq (neg : Bool) : signedInf neg = fPack neg infBits := by cases neg <;> rfl

/-! ## The value of an encoding -/

/-- The value of a sign. -/
def signVal (neg : Bool) : ℚ := if neg then -1 else 1

/-- The value of magnitude bits in units of 2^-149, infinity's included. -/
def magVal (m : Nat) : Nat := if m / 2 ^ 23 = 0 then m else (2 ^ 23 + m % 2 ^ 23) * 2 ^ (m / 2 ^ 23 - 1)

theorem fMag_eq (a : F32) : fMag a = magVal (magBits a) := by
  simp only [fMag, magVal, fExp_eq, fFrac_eq]
  split
  · omega
  · rw [Nat.add_comm]

theorem exact_eq (a : F32) : exact a = signVal (a.getLsbD 31) * magVal (magBits a) / 2 ^ 149 := by
  unfold exact signVal magVal
  split_ifs <;> simp

theorem fVal_eq (a : F32) : (fVal a : ℚ) = exact a * 2 ^ 149 := by
  rw [exact_eq, fVal, fMag_eq, fSign]
  cases a.getLsbD 31 <;> simp [signVal]

/-- A significand of up to 2^24 over a scale, encoded: subnormals at scale 0, and a significand of 2^24 carries into the
exponent field. -/
theorem magVal_scaled {s k : Nat} (hk : k ≤ 2 ^ 24) (hs : s = 0 ∨ 2 ^ 23 ≤ k) :
    magVal (s * 2 ^ 23 + k) = k * 2 ^ s := by
  unfold magVal
  by_cases hsub : k < 2 ^ 23
  · obtain rfl : s = 0 := by omega
    rw [Nat.zero_mul, Nat.zero_add, if_pos (Nat.div_eq_of_lt hsub), pow_zero, Nat.mul_one]
  by_cases hcarry : k = 2 ^ 24
  · subst hcarry
    have hd : (s * 2 ^ 23 + 2 ^ 24) / 2 ^ 23 = s + 2 := by omega
    have hm : (s * 2 ^ 23 + 2 ^ 24) % 2 ^ 23 = 0 := by omega
    rw [hd, hm, if_neg (by omega), show s + 2 - 1 = s + 1 from rfl]
    ring
  · have hd : (s * 2 ^ 23 + k) / 2 ^ 23 = s + 1 := by omega
    have hm : (s * 2 ^ 23 + k) % 2 ^ 23 = k - 2 ^ 23 := by omega
    rw [hd, hm, if_neg (by omega), show 2 ^ 23 + (k - 2 ^ 23) = k by omega, Nat.add_sub_cancel]

theorem magVal_strictMono : StrictMono magVal := by
  refine strictMono_nat_of_lt_succ fun m => ?_
  obtain ⟨s, k, rfl, hk, hs⟩ : ∃ s k, m = s * 2 ^ 23 + k ∧ k < 2 ^ 24 ∧ (s = 0 ∨ 2 ^ 23 ≤ k) :=
    ⟨m / 2 ^ 23 - 1, m - (m / 2 ^ 23 - 1) * 2 ^ 23, by omega, by omega, by omega⟩
  rw [magVal_scaled hk.le hs, Nat.add_assoc, magVal_scaled hk (by omega)]
  exact Nat.mul_lt_mul_of_pos_right (Nat.lt_succ_self k) (by positivity)

theorem magVal_zero : magVal 0 = 0 := by decide

theorem magVal_infBits : (magVal infBits : ℚ) = 2 ^ 128 * 2 ^ 149 := by
  rw [show infBits = 253 * 2 ^ 23 + 2 ^ 24 from rfl, magVal_scaled le_rfl (by norm_num)]
  norm_num

theorem magVal_maxFinite : (magVal (infBits - 1) : ℚ) = (2 ^ 128 - 2 ^ 104) * 2 ^ 149 := by
  rw [show infBits - 1 = 253 * 2 ^ 23 + (2 ^ 24 - 1) from rfl, magVal_scaled (by norm_num) (by norm_num)]
  norm_num

/-! ## Rounding a magnitude -/

/-- `E` is `L` or `L + 1`, whichever has its value nearer to `y`, and the even one halfway between them. -/
def PicksNearer (y : ℚ) (L E : Nat) : Prop :=
  (E = L ∧ (2 * y < magVal L + magVal (L + 1) ∨ 2 * y = magVal L + magVal (L + 1) ∧ L % 2 = 0)) ∨
  (E = L + 1 ∧ (magVal L + magVal (L + 1) < 2 * y ∨ 2 * y = magVal L + magVal (L + 1) ∧ L % 2 = 1))

/-- The exponent of the last place kept of `num/den`, in units of 2^-149. -/
def ulpExp (num den : Nat) : Nat := (num / den).log2 + 1 - 24

/-- The quotient kept has at most 24 bits, and 24 exactly where bits below it were dropped. -/
theorem significand_bounds (q : Nat) :
    q / 2 ^ (q.log2 + 1 - 24) < 2 ^ 24 ∧ (q.log2 + 1 - 24 = 0 ∨ 2 ^ 23 ≤ q / 2 ^ (q.log2 + 1 - 24)) := by
  have hlt : q < 2 ^ (q.log2 + 1) := Nat.lt_log2_self
  by_cases hs : q.log2 + 1 - 24 = 0
  · have : 2 ^ (q.log2 + 1) ≤ 2 ^ 24 := Nat.pow_le_pow_right (by norm_num) (by omega)
    rw [hs, pow_zero, Nat.div_one]
    omega
  · have hge : 2 ^ q.log2 ≤ q := Nat.log2_self_le (by rintro rfl; simp at hs)
    refine ⟨?_, .inr ?_⟩
    · rw [Nat.div_lt_iff_lt_mul (by positivity), ← pow_add]
      rwa [show 24 + (q.log2 + 1 - 24) = q.log2 + 1 by omega]
    · rw [Nat.le_div_iff_mul_le (by positivity), ← pow_add]
      rwa [show 23 + (q.log2 + 1 - 24) = q.log2 by omega]

/-- The remainder's test of `roundBits` picks the nearer neighbour of the significand `k` and a fraction. -/
theorem picksNearer_of_remainder {s k r unit : Nat} (hunit : 0 < unit) (hL : magVal (s * 2 ^ 23 + k) = k * 2 ^ s)
    (hU : magVal (s * 2 ^ 23 + k + 1) = (k + 1) * 2 ^ s) :
    PicksNearer ((k + r / unit) * 2 ^ s) (s * 2 ^ 23 + k)
      (s * 2 ^ 23 + (if decide (2 * r > unit) || (decide (2 * r = unit) && k % 2 == 1) then k + 1 else k)) := by
  obtain ⟨f, hf⟩ : ∃ f : ℚ, f = r / unit := ⟨_, rfl⟩
  have hunitQ : (0 : ℚ) < unit := Nat.cast_pos.mpr hunit
  have hr : (2 * r : ℚ) = 2 * f * unit := by rw [hf]; field_simp
  have hP : (0 : ℚ) < 2 ^ s := by positivity
  unfold PicksNearer
  rw [hL, hU, ← hf]
  push_cast
  rcases lt_trichotomy (2 * r) unit with hlt | heq | hgt
  · have hf2 : 2 * f < 1 := by
      have : (2 * r : ℚ) < unit := by exact_mod_cast hlt
      nlinarith
    exact .inl ⟨by simp [hlt.not_gt, hlt.ne], .inl (by nlinarith)⟩
  · have hf2 : 2 * f = 1 := by
      have : (2 * r : ℚ) = unit := by exact_mod_cast heq
      nlinarith
    have hmid : 2 * ((k + f) * 2 ^ s) = (k * 2 ^ s + (k + 1) * 2 ^ s : ℚ) := by linear_combination hf2 * 2 ^ s
    rcases Nat.mod_two_eq_zero_or_one k with hk2 | hk2
    · exact .inl ⟨by simp [heq, hk2], .inr ⟨hmid, by omega⟩⟩
    · exact .inr ⟨by simp [heq, hk2, Nat.add_assoc], .inr ⟨hmid, by omega⟩⟩
  · have hf2 : 1 < 2 * f := by
      have : (unit : ℚ) < 2 * r := by exact_mod_cast hgt
      nlinarith
    exact .inr ⟨by simp [hgt, Nat.add_assoc], .inl (by nlinarith)⟩

/-- `roundBits` brackets the quotient between two neighbouring encodings and picks the nearer one. -/
theorem roundBits_bracket (num : Nat) {den : Nat} (hden : 0 < den) :
    ∃ L E, roundBits num den = min E infBits ∧ (magVal L : ℚ) ≤ num / den ∧ (num / den : ℚ) < magVal (L + 1) ∧
      (magVal (L + 1) : ℚ) = magVal L + 2 ^ ulpExp num den ∧ PicksNearer (num / den) L E := by
  obtain ⟨s, hs⟩ : ∃ s, s = ulpExp num den := ⟨_, rfl⟩
  obtain ⟨unit, hunit⟩ : ∃ unit, unit = den * 2 ^ s := ⟨_, rfl⟩
  have hpos : 0 < unit := hunit ▸ by positivity
  obtain ⟨hk, hnorm⟩ : num / unit < 2 ^ 24 ∧ (s = 0 ∨ 2 ^ 23 ≤ num / unit) := by
    rw [hunit, ← Nat.div_div_eq_div_mul, hs]
    exact significand_bounds _
  have hr : num % unit < unit := Nat.mod_lt _ hpos
  have hnum : unit * (num / unit) + num % unit = num := Nat.div_add_mod num unit
  have hround : roundBits num den = min (s * 2 ^ 23 + (if decide (2 * (num % unit) > unit) ||
      (decide (2 * (num % unit) = unit) && num / unit % 2 == 1) then num / unit + 1 else num / unit)) infBits := by
    rw [hunit, hs]; rfl
  generalize num / unit = k at *
  generalize num % unit = r at *
  have hL : magVal (s * 2 ^ 23 + k) = k * 2 ^ s := magVal_scaled hk.le hnorm
  have hU : magVal (s * 2 ^ 23 + k + 1) = (k + 1) * 2 ^ s := by
    rw [Nat.add_assoc]; exact magVal_scaled hk (by omega)
  have hquot : (num / den : ℚ) = (k + r / unit) * 2 ^ s := by
    rw [← hnum, hunit]; push_cast; field_simp
  have hf0 : (0 : ℚ) ≤ r / unit := by positivity
  have hf1 : (r / unit : ℚ) < 1 := by rw [div_lt_one (Nat.cast_pos.mpr hpos)]; exact_mod_cast hr
  have hP : (0 : ℚ) < 2 ^ s := by positivity
  rw [hquot]
  refine ⟨s * 2 ^ 23 + k, _, hround, ?_, ?_, ?_, picksNearer_of_remainder hpos hL hU⟩
  · rw [hL]; push_cast; nlinarith
  · rw [hU]; push_cast; nlinarith
  · rw [hL, hU, ← hs]; push_cast; ring

/-- `m` is the magnitude `y`, in units of 2^-149, rounded to nearest with ties to even: infinity from halfway between the
largest finite value and the next step on. -/
def MagNearest (y : ℚ) (m : Nat) : Prop :=
  ((magVal (infBits - 1) + magVal infBits : ℚ) ≤ 2 * y → m = infBits) ∧
  (2 * y < magVal (infBits - 1) + magVal infBits → m < infBits ∧
    ∀ k, |(magVal m : ℚ) - y| ≤ |(magVal k : ℚ) - y| ∧
      (|(magVal k : ℚ) - y| = |(magVal m : ℚ) - y| → magVal k = magVal m ∨ m % 2 = 0))

theorem magVal_le_cast {m n : Nat} (h : m ≤ n) : (magVal m : ℚ) ≤ magVal n :=
  Nat.cast_le.mpr (magVal_strictMono.monotone h)

theorem magVal_lt_cast {m n : Nat} (h : m < n) : (magVal m : ℚ) < magVal n :=
  Nat.cast_lt.mpr (magVal_strictMono h)

/-- The nearer of two neighbours around `y` is nearest among all encodings. -/
theorem PicksNearer.nearest {y : ℚ} {L E : Nat} (h : PicksNearer y L E) (hL : (magVal L : ℚ) ≤ y)
    (hU : y < magVal (L + 1)) (k : Nat) :
    |(magVal E : ℚ) - y| ≤ |(magVal k : ℚ) - y| ∧
      (|(magVal k : ℚ) - y| = |(magVal E : ℚ) - y| → magVal k = magVal E ∨ E % 2 = 0) := by
  have hdL : |(magVal L : ℚ) - y| = y - magVal L := by rw [abs_sub_comm, abs_of_nonneg (by linarith)]
  have hdU : |(magVal (L + 1) : ℚ) - y| = magVal (L + 1) - y := abs_of_nonneg (by linarith)
  rcases Nat.lt_or_ge L k with hk | hk
  · have hkv := magVal_le_cast hk
    have hdk : |(magVal k : ℚ) - y| = magVal k - y := abs_of_nonneg (by linarith)
    rcases h with ⟨rfl, hlt | ⟨heq, heven⟩⟩ | ⟨rfl, hpick⟩
    · exact ⟨by linarith, fun h => by linarith⟩
    · exact ⟨by linarith, fun _ => .inr heven⟩
    · exact ⟨by linarith, fun h => .inl (by exact_mod_cast (by linarith : (magVal k : ℚ) = magVal (L + 1)))⟩
  · have hkv := magVal_le_cast hk
    have hdk : |(magVal k : ℚ) - y| = y - magVal k := by rw [abs_sub_comm, abs_of_nonneg (by linarith)]
    rcases h with ⟨rfl, hpick⟩ | ⟨rfl, hlt | ⟨heq, hodd⟩⟩
    · exact ⟨by linarith, fun h => .inl (by exact_mod_cast (by linarith : (magVal k : ℚ) = magVal E))⟩
    · exact ⟨by linarith, fun h => by linarith⟩
    · exact ⟨by linarith, fun _ => .inr (by omega)⟩

/-- The pick reaches infinity exactly from the halfway point beyond the largest finite value on. -/
theorem PicksNearer.infBits_le_iff {y : ℚ} {L E : Nat} (h : PicksNearer y L E) (hL : (magVal L : ℚ) ≤ y)
    (hU : y < magVal (L + 1)) : infBits ≤ E ↔ (magVal (infBits - 1) + magVal infBits : ℚ) ≤ 2 * y := by
  have hlast : infBits - 1 + 1 = infBits := rfl
  have hstep : (magVal (infBits - 1) : ℚ) < magVal infBits := magVal_lt_cast (by decide)
  rcases lt_trichotomy L (infBits - 1) with hlt | rfl | hgt
  · have hEL : ¬ infBits ≤ E := by rcases h with ⟨rfl, -⟩ | ⟨rfl, -⟩ <;> omega
    have hy := magVal_le_cast (show L + 1 ≤ infBits - 1 by omega)
    exact iff_of_false hEL (by linarith)
  · rw [hlast] at hU
    rcases h with ⟨rfl, hlt | ⟨-, heven⟩⟩ | ⟨rfl, hpick⟩
    · rw [hlast] at hlt
      exact iff_of_false (by decide) (by linarith)
    · exact absurd heven (by decide)
    · rw [hlast] at hpick
      exact iff_of_true le_rfl (by rcases hpick with hp | ⟨hp, -⟩ <;> linarith)
  · have hy := magVal_le_cast (show infBits ≤ L by omega)
    refine iff_of_true ?_ (by linarith)
    rcases h with ⟨rfl, -⟩ | ⟨rfl, -⟩ <;> omega

theorem roundBits_nearest (num : Nat) {den : Nat} (hden : 0 < den) : MagNearest (num / den) (roundBits num den) := by
  obtain ⟨L, E, hround, hL, hU, -, hpick⟩ := roundBits_bracket num hden
  have hinf := hpick.infBits_le_iff hL hU
  rw [hround]
  refine ⟨fun hover => Nat.min_eq_right (hinf.mpr hover), fun hfin => ?_⟩
  have hE : E < infBits := Nat.lt_of_not_le fun h => absurd (hinf.mp h) (not_le.mpr hfin)
  rw [Nat.min_eq_left hE.le]
  exact ⟨hE, hpick.nearest hL hU⟩

/-- The rounding error is at most half a unit in the last place. -/
theorem roundBits_error (num : Nat) {den : Nat} (hden : 0 < den)
    (hfin : (2 * (num / den) : ℚ) < magVal (infBits - 1) + magVal infBits) :
    2 * |(magVal (roundBits num den) : ℚ) - num / den| ≤ 2 ^ ulpExp num den := by
  obtain ⟨-, hnear⟩ := roundBits_nearest num hden
  obtain ⟨L, -, -, hL, hU, hulp, -⟩ := roundBits_bracket num hden
  obtain ⟨-, hnear⟩ := hnear hfin
  have h0 := (hnear L).1
  have h1 := (hnear (L + 1)).1
  rw [abs_of_nonpos (by linarith : (magVal L : ℚ) - num / den ≤ 0)] at h0
  rw [abs_of_nonneg (by linarith : 0 ≤ (magVal (L + 1) : ℚ) - num / den)] at h1
  linarith

/-! ## Rounding with a sign -/

theorem abs_signVal_mul (neg : Bool) (u : ℚ) : |signVal neg * u| = |u| := by
  cases neg <;> simp [signVal]

theorem signVal_lt_zero {y : ℚ} (hy : 0 < y) (neg : Bool) : decide (signVal neg * y / 2 ^ 149 < 0) = neg := by
  have h := div_pos hy (by norm_num : (0 : ℚ) < 2 ^ 149)
  cases neg
  · simpa [signVal] using h.le
  · simpa [signVal, neg_div] using h

/-- The distance to a value of the same sign is the distance of the magnitudes. -/
theorem abs_sub_same_sign (neg : Bool) (u y : ℚ) :
    |signVal neg * u / 2 ^ 149 - signVal neg * y / 2 ^ 149| = |u - y| / 2 ^ 149 := by
  rw [← sub_div, ← mul_sub, abs_div, abs_signVal_mul, abs_of_pos (by norm_num : (0 : ℚ) < 2 ^ 149)]

/-- The distance to a value of the other sign is the sum of the magnitudes. -/
theorem abs_sub_other_sign {neg neg' : Bool} (hne : neg' ≠ neg) {u y : ℚ} (hu : 0 ≤ u) (hy : 0 < y) :
    |signVal neg' * u / 2 ^ 149 - signVal neg * y / 2 ^ 149| = (u + y) / 2 ^ 149 := by
  have hflip : signVal neg' = -signVal neg := by cases neg <;> cases neg' <;> simp_all [signVal]
  rw [← sub_div, hflip, show -signVal neg * u - signVal neg * y = signVal neg * -(u + y) by ring, abs_div,
    abs_signVal_mul, abs_neg, abs_of_nonneg (by linarith), abs_of_pos (by norm_num : (0 : ℚ) < 2 ^ 149)]

theorem exact_fPack (neg : Bool) {m : Nat} (hm : m < 2 ^ 31) :
    exact (fPack neg m) = signVal neg * magVal m / 2 ^ 149 := by
  rw [exact_eq, signBit_fPack neg hm, magBits_fPack neg hm]

/-- The overflow threshold is halfway between the largest finite value and infinity's encoding. -/
theorem overflow_iff {y : ℚ} (hy : 0 < y) (neg : Bool) :
    2 ^ 128 - 2 ^ 103 ≤ |signVal neg * y / 2 ^ 149| ↔ (magVal (infBits - 1) + magVal infBits : ℚ) ≤ 2 * y := by
  rw [mul_div_assoc, abs_signVal_mul, abs_of_pos (by positivity), le_div_iff₀ (by norm_num), magVal_infBits,
    magVal_maxFinite]
  constructor <;> intro h <;> linarith

/-- A nearest magnitude under the sign of the exact value is the nearest encoding. -/
theorem fPack_nearest {y : ℚ} (hy : 0 < y) {m : Nat} (neg : Bool) (h : MagNearest y m) :
    Nearest (signVal neg * y / 2 ^ 149) (fPack neg m) := by
  obtain ⟨hover, hfin⟩ := h
  unfold Nearest
  rw [signVal_lt_zero hy, ← not_le, overflow_iff hy, not_le]
  refine ⟨fun hx => by rw [hover hx, signedInf_eq], fun hx => ?_⟩
  obtain ⟨hm, hnear⟩ := hfin hx
  have hm31 : m < 2 ^ 31 := hm.trans (by decide)
  refine ⟨?_, signBit_fPack neg hm31, fun b _ => ?_⟩
  · rw [isFiniteEnc, magBits_fPack neg hm31]; exact hm
  rw [exact_fPack neg hm31, lowBit_fPack neg hm31, exact_eq b, abs_sub_same_sign]
  have hpow : (0 : ℚ) < 2 ^ 149 := by norm_num
  by_cases hsign : b.getLsbD 31 = neg
  · obtain ⟨hle, htie⟩ := hnear (magBits b)
    rw [hsign, abs_sub_same_sign, div_le_div_iff_of_pos_right hpow, div_left_inj' hpow.ne']
    exact ⟨hle, fun heq => (htie heq).imp (fun hv => by rw [hv]) fun hev => by simp [hev]⟩
  · obtain ⟨hle, htie⟩ := hnear 0
    rw [magVal_zero, Nat.cast_zero, zero_sub, abs_neg, abs_of_pos hy] at hle htie
    have hb : (0 : ℚ) ≤ magVal (magBits b) := Nat.cast_nonneg _
    rw [abs_sub_other_sign hsign hb hy, div_le_div_iff_of_pos_right hpow, div_left_inj' hpow.ne']
    refine ⟨by linarith, fun heq => ?_⟩
    have hb0 : (magVal (magBits b) : ℚ) = 0 := by linarith
    rw [hb0]
    exact (htie (by linarith)).imp (fun hv => by rw [← hv]; simp) fun hev => by simp [hev]

theorem fRound_nearest (neg : Bool) {num den : Nat} (hnum : 0 < num) (hden : 0 < den) :
    Nearest (signVal neg * (num / den) / 2 ^ 149) (fRound neg num den) :=
  fPack_nearest (by positivity) neg (roundBits_nearest num hden)

theorem fRound_zero (neg : Bool) (den : Nat) : fRound neg 0 den = signedZero neg := by
  rw [signedZero_eq]
  simp [fRound, roundBits]

/-! ## The primitives (R14) -/

theorem not_isnan_of_finite {a : F32} (h : isFiniteEnc a) : isnan a = false :=
  isnan_of_finite ((finite_iff a).mpr h)

theorem not_isinf_of_finite {a : F32} (h : isFiniteEnc a) : isinf a = false := by
  rw [← Bool.not_eq_true, isinf_iff, isInfEnc]; unfold isFiniteEnc at h; omega

theorem not_isnan_of_inf {a : F32} (h : isInfEnc a) : isnan a = false := by
  rw [← Bool.not_eq_true, isnan_iff, isNanEnc, h]; exact lt_irrefl _

theorem isNanEnc_qNaN : isNanEnc qNaN := (isnan_iff _).mp isnan_qNaN

theorem fMag_eq_zero_iff (a : F32) : fMag a = 0 ↔ exact a = 0 := by
  rw [exact_eq, fMag_eq]
  cases a.getLsbD 31 <;> simp [signVal]

theorem exact_eq_fMag (a : F32) : exact a = signVal (fSign a) * fMag a / 2 ^ 149 := by
  rw [exact_eq, fMag_eq]; rfl

theorem signVal_xor (p q : Bool) : signVal (p != q) = signVal p * signVal q := by
  cases p <;> cases q <;> simp [signVal]

theorem signVal_ne_zero (neg : Bool) : signVal neg ≠ 0 := by cases neg <;> simp [signVal]

theorem signVal_div (p q : Bool) : signVal (p != q) = signVal p / signVal q := by
  cases p <;> cases q <;> simp [signVal]

theorem signXor_eq (a b : F32) : signXor a b = (fSign a != fSign b) := rfl

theorem signVal_mul_natAbs (v : ℤ) : signVal (decide (v < 0)) * v.natAbs = (v : ℚ) := by
  rw [Nat.cast_natAbs, Int.cast_abs]
  rcases lt_or_ge v 0 with h | h
  · have : (v : ℚ) < 0 := by exact_mod_cast h
    simp [signVal, h, abs_of_neg this]
  · have : (0 : ℚ) ≤ v := by exact_mod_cast h
    simp [signVal, h.not_gt, abs_of_nonneg this]

/-- An integer of units of 2^-149, rounded. -/
theorem fRound_int_nearest {v : ℤ} (hv : v ≠ 0) :
    Nearest (v / 2 ^ 149) (fRound (decide (v < 0)) v.natAbs 1) := by
  have h := fRound_nearest (decide (v < 0)) (Int.natAbs_pos.mpr hv) Nat.one_pos
  rwa [Nat.cast_one, div_one, signVal_mul_natAbs] at h

theorem fVal_div (a : F32) : (fVal a / 2 ^ 149 : ℚ) = exact a := by
  rw [fVal_eq, mul_div_cancel_right₀ _ (by norm_num)]

theorem fadd_finite {a b : F32} (ha : isFiniteEnc a) (hb : isFiniteEnc b) :
    fadd a b = if fVal a + fVal b = 0 then fPack (fSign a && fSign b) 0
      else fRound (decide (fVal a + fVal b < 0)) (fVal a + fVal b).natAbs 1 := by
  simp [fadd, not_isnan_of_finite ha, not_isnan_of_finite hb, not_isinf_of_finite ha, not_isinf_of_finite hb]

theorem exact_add_exact (a b : F32) : exact a + exact b = ((fVal a + fVal b : ℤ) : ℚ) / 2 ^ 149 := by
  rw [Int.cast_add, add_div, fVal_div, fVal_div]

theorem addIsIeee (a b : F32) : AddIsIeee a b := by
  refine ⟨fun h => ?_, fun ha hb => ?_, fun ha hb => ?_, fun ha hb => ?_, fun ha hb => ?_⟩
  · rw [fadd_nan (by simpa only [Bool.or_eq_true, isnan_iff] using h)]; exact isNanEnc_qNaN
  · have hsame : a = b ↔ fSign a = fSign b :=
      ⟨fun h => h ▸ rfl, fun h => eq_of_parts h (ha.trans hb.symm)⟩
    by_cases hs : fSign a = fSign b <;>
      simp [hsame, hs, fadd, not_isnan_of_inf ha, not_isnan_of_inf hb, (isinf_iff _).mpr ha, (isinf_iff _).mpr hb,
        isNanEnc_qNaN]
  · simp [fadd, not_isnan_of_inf ha, not_isnan_of_finite hb, (isinf_iff _).mpr ha, not_isinf_of_finite hb]
  · simp [fadd, not_isnan_of_finite ha, not_isnan_of_inf hb, not_isinf_of_finite ha, (isinf_iff _).mpr hb]
  · rw [exact_add_exact, fadd_finite ha hb]
    refine ⟨fun hne => ?_, fun heq => ?_⟩
    · have hv : fVal a + fVal b ≠ 0 := fun h => hne (by rw [h]; simp)
      rw [if_neg hv]; exact fRound_int_nearest hv
    · have hv : fVal a + fVal b = 0 := by
        exact_mod_cast (div_eq_zero_iff.mp heq).resolve_right (by norm_num)
      rw [if_pos hv, signedZero_eq]; rfl

theorem exact_ne_zero_of_inf {a : F32} (h : isInfEnc a) : exact a ≠ 0 := by
  rw [Ne, ← fMag_eq_zero_iff, fMag_eq, h]; decide

/-- A product with an infinity is invalid with a zero, and else infinite. -/
theorem fmul_inf {a b : F32} (ha : ¬ isNanEnc a) (hb : ¬ isNanEnc b) (hinf : isInfEnc a ∨ isInfEnc b) :
    fmul a b = if exact a = 0 ∨ exact b = 0 then qNaN else signedInf (signXor a b) := by
  have hzero : ∀ c : F32, ((!isinf c && fMag c == 0) = true ↔ exact c = 0) := fun c => by
    rw [Bool.and_eq_true, beq_iff_eq, fMag_eq_zero_iff, Bool.not_eq_true', ← Bool.not_eq_true, isinf_iff]
    exact and_iff_right_of_imp fun h0 hi => exact_ne_zero_of_inf hi h0
  rw [← isnan_iff, Bool.not_eq_true] at ha hb
  rw [← isinf_iff, ← isinf_iff, ← Bool.or_eq_true] at hinf
  simp only [fmul, ha, hb, hinf, Bool.or_self, Bool.false_eq_true, if_false, if_true, Bool.or_eq_true, hzero,
    signedInf_eq, signXor_eq]

theorem fmul_finite {a b : F32} (ha : isFiniteEnc a) (hb : isFiniteEnc b) :
    fmul a b = fRound (signXor a b) (fMag a * fMag b) (2 ^ 149) := by
  simp [fmul, not_isnan_of_finite ha, not_isnan_of_finite hb, not_isinf_of_finite ha, not_isinf_of_finite hb,
    signXor_eq]

theorem mulIsIeee (a b : F32) : MulIsIeee a b := by
  refine ⟨fun h => ?_, fun ha hb => ?_, fun hb ha => ?_, fun ha hb => ?_⟩
  · rw [fmul_nan (by simpa only [Bool.or_eq_true, isnan_iff] using h)]; exact isNanEnc_qNaN
  · have hna : ¬ isNanEnc a := by rw [← isnan_iff, not_isnan_of_inf ha]; simp
    rw [fmul_inf hna hb (.inl ha)]
    by_cases h0 : exact b = 0 <;> simp [h0, exact_ne_zero_of_inf ha, isNanEnc_qNaN]
  · have hnb : ¬ isNanEnc b := by rw [← isnan_iff, not_isnan_of_inf hb]; simp
    rw [fmul_inf ha hnb (.inr hb)]
    by_cases h0 : exact a = 0 <;> simp [h0, exact_ne_zero_of_inf hb, isNanEnc_qNaN]
  · rw [fmul_finite ha hb, Ne, mul_eq_zero, ← fMag_eq_zero_iff, ← fMag_eq_zero_iff, ← Nat.mul_eq_zero]
    refine ⟨fun hne => ?_, fun h0 => by rw [h0, fRound_zero]⟩
    convert fRound_nearest (signXor a b) (Nat.pos_of_ne_zero hne) (show 0 < 2 ^ 149 by positivity) using 1
    rw [exact_eq_fMag, exact_eq_fMag, signXor_eq, signVal_xor]
    push_cast
    ring

theorem fdiv_finite {a b : F32} (ha : isFiniteEnc a) (hb : isFiniteEnc b) :
    fdiv a b = if exact b = 0 then (if exact a = 0 then qNaN else signedInf (signXor a b))
      else fRound (signXor a b) (fMag a * 2 ^ 149) (fMag b) := by
  simp [fdiv, not_isnan_of_finite ha, not_isnan_of_finite hb, not_isinf_of_finite ha, not_isinf_of_finite hb,
    fMag_eq_zero_iff, signedInf_eq, signXor_eq]

theorem divIsIeee (a b : F32) : DivIsIeee a b := by
  refine ⟨fun h => ?_, fun ha hb => ?_, fun ha hb => ?_, fun ha hb => ?_, fun ha hb h0 => ?_, fun ha hb h0 => ?_⟩
  · rw [fdiv_nan (by simpa only [Bool.or_eq_true, isnan_iff] using h)]; exact isNanEnc_qNaN
  · simp [fdiv, not_isnan_of_inf ha, not_isnan_of_inf hb, (isinf_iff _).mpr ha, (isinf_iff _).mpr hb, isNanEnc_qNaN]
  · simp [fdiv, not_isnan_of_inf ha, not_isnan_of_finite hb, (isinf_iff _).mpr ha, not_isinf_of_finite hb, signedInf_eq,
      signXor_eq]
  · simp [fdiv, not_isnan_of_finite ha, not_isnan_of_inf hb, not_isinf_of_finite ha, (isinf_iff _).mpr hb, signedZero_eq,
      signXor_eq]
  · rw [fdiv_finite ha hb, if_pos h0]
    split_ifs
    · exact isNanEnc_qNaN
    · rfl
  · rw [fdiv_finite ha hb, if_neg h0, Ne, ← fMag_eq_zero_iff a]
    refine ⟨fun hne => ?_, fun h0 => by rw [h0, Nat.zero_mul, fRound_zero]⟩
    have hnum : 0 < fMag a * 2 ^ 149 := Nat.mul_pos (Nat.pos_of_ne_zero hne) (by positivity)
    have hden : 0 < fMag b := Nat.pos_of_ne_zero (mt (fMag_eq_zero_iff b).mp h0)
    have hdenQ : (fMag b : ℚ) ≠ 0 := by exact_mod_cast hden.ne'
    have hsign := signVal_ne_zero (fSign b)
    convert fRound_nearest (signXor a b) hnum hden using 1
    rw [exact_eq_fMag a, exact_eq_fMag b, signXor_eq, signVal_div]
    push_cast
    field_simp
    norm_num

theorem f32OfInt_nearest {n : ℤ} (hn : n ≠ 0) : Nearest n (f32OfInt n) := by
  have hnum : 0 < n.natAbs * 2 ^ 149 := Nat.mul_pos (Int.natAbs_pos.mpr hn) (by positivity)
  unfold f32OfInt
  convert fRound_nearest (decide (n < 0)) hnum Nat.one_pos using 1
  rw [← signVal_mul_natAbs n]
  push_cast
  ring

theorem f32OfInt_zero : f32OfInt 0 = 0#32 := by
  unfold f32OfInt
  exact fRound_zero false 1

/-! ## Comparisons and the clamp -/

/-- The value of a key, in units of 2^-149. -/
def keyVal (k : ℤ) : ℤ := k.sign * magVal k.natAbs

theorem keyVal_strictMono : StrictMono keyVal := by
  refine strictMono_of_odd_strictMonoOn_nonneg (fun k => by simp [keyVal]) fun j hj k hk hjk => ?_
  lift j to ℕ using hj
  lift k to ℕ using hk
  have hnat : ∀ n : ℕ, keyVal n = magVal n := fun n => by
    rcases Nat.eq_zero_or_pos n with rfl | hn
    · rfl
    · simp [keyVal, Int.sign_eq_one_of_pos (Int.natCast_pos.mpr hn)]
  rw [hnat, hnat, Int.ofNat_lt]
  exact magVal_strictMono (Int.ofNat_lt.mp hjk)

theorem fVal_eq_keyVal (a : F32) : fVal a = keyVal (fKey a) := by
  have hlow : (a.extractLsb' 0 31).toNat = magBits a := by simp [magBits]
  rw [fVal, fMag_eq, fKey, hlow]
  rcases Nat.eq_zero_or_pos (magBits a) with h0 | hpos
  · simp [h0, magVal_zero, keyVal]
  · have hsign := Int.sign_eq_one_of_pos (Int.natCast_pos.mpr hpos)
    cases fSign a <;> simp [keyVal, hsign]

theorem exact_eq_keyVal (a : F32) : exact a = keyVal (fKey a) / 2 ^ 149 := by
  rw [← fVal_eq_keyVal, fVal_div]

theorem exact_lt_iff (a b : F32) : exact a < exact b ↔ fKey a < fKey b := by
  rw [exact_eq_keyVal, exact_eq_keyVal, div_lt_div_iff_of_pos_right (by norm_num), Int.cast_lt,
    keyVal_strictMono.lt_iff_lt]

theorem exact_eq_iff (a b : F32) : exact a = exact b ↔ fKey a = fKey b := by
  rw [exact_eq_keyVal, exact_eq_keyVal, div_left_inj' (by norm_num), Int.cast_inj, keyVal_strictMono.injective.eq_iff]

theorem flt_iff_exact (a b : F32) : flt a b = true ↔ ¬ isNanEnc a ∧ ¬ isNanEnc b ∧ exact a < exact b := by
  simp [flt, ← isnan_iff, exact_lt_iff, and_assoc]

theorem feq_iff_exact (a b : F32) : feq a b = true ↔ ¬ isNanEnc a ∧ ¬ isNanEnc b ∧ exact a = exact b := by
  simp [feq, ← isnan_iff, exact_eq_iff, and_assoc]

theorem testsAreIeee (a b : F32) : TestsAreIeee a b := by
  refine ⟨isnan_iff a, finite_iff a, flt_iff_exact a b, ?_, feq_iff_exact a b⟩
  rw [fgt, flt_iff_exact]
  tauto

/-- A comparison of two values that is false bounds them the other way. -/
theorem flt_false_iff {a b : F32} (ha : isnan a = false) (hb : isnan b = false) :
    flt a b = false ↔ exact b ≤ exact a := by
  rw [← not_lt, exact_lt_iff, ← flt_iff ha hb, Bool.not_eq_true]

theorem fclamp_nan {x lo hi : F32} (hx : isnan x = true) : fclamp x lo hi = x := by
  simp [fclamp, fgt, flt, hx]

/-- A clamp of values is the clamp of what they stand for. -/
theorem exact_fclamp {x lo hi : F32} (hx : isnan x = false) (hlo : isnan lo = false) (hhi : isnan hi = false)
    (hle : exact lo ≤ exact hi) : exact (fclamp x lo hi) = max (exact lo) (min (exact x) (exact hi)) := by
  rcases fclamp_cases x lo hi with ⟨hlt, h⟩ | ⟨hlo', hgt, h⟩ | ⟨hlo', hhi', h⟩ <;> rw [h]
  · obtain ⟨-, -, hv⟩ := (flt_iff_exact _ _).mp hlt
    exact (max_eq_left ((min_le_left _ _).trans hv.le)).symm
  · obtain ⟨-, -, hv⟩ := (flt_iff_exact _ _).mp hgt
    rw [min_eq_right hv.le, max_eq_right hle]
  · have hv := (flt_false_iff hx hlo).mp hlo'
    have hv' := (flt_false_iff hhi hx).mp hhi'
    rw [min_eq_left hv', max_eq_right hv]

theorem magBits_fneg (a : F32) : magBits (fneg a) = magBits a := by
  have hlow : ∀ x : F32, magBits x = (x.setWidth 31).toNat := fun x => by simp [magBits]
  rw [hlow, hlow, fneg, BitVec.setWidth_xor]
  simp

theorem signBit_fneg (a : F32) : (fneg a).getLsbD 31 = !a.getLsbD 31 := by
  rw [fneg, BitVec.getLsbD_xor, show (0x80000000#32 : F32).getLsbD 31 = true from rfl, Bool.xor_true]

theorem exact_fneg (a : F32) : exact (fneg a) = -exact a := by
  rw [exact_eq, exact_eq, magBits_fneg, signBit_fneg]
  cases a.getLsbD 31 <;> simp [signVal, neg_div]

theorem isnan_fneg (a : F32) : isnan (fneg a) = isnan a := by
  rw [Bool.eq_iff_iff, isnan_iff, isnan_iff, isNanEnc, isNanEnc, magBits_fneg]

/-- A finite value lies within the largest one. -/
theorem abs_exact_le_of_finite {a : F32} (h : isFiniteEnc a) : |exact a| ≤ 2 ^ 128 - 2 ^ 104 := by
  have hle := magVal_le_cast (show magBits a ≤ infBits - 1 from Nat.le_pred_of_lt h)
  rw [magVal_maxFinite] at hle
  rw [exact_eq, mul_div_assoc, abs_signVal_mul, abs_of_nonneg (by positivity), div_le_iff₀ (by norm_num)]
  exact hle

theorem isFiniteEnc_of_abs_exact_lt {a : F32} (h : |exact a| < 2 ^ 128) : isFiniteEnc a := by
  by_contra hinf
  have hle := magVal_le_cast (show infBits ≤ magBits a from Nat.le_of_not_lt hinf)
  rw [exact_eq, mul_div_assoc, abs_signVal_mul, abs_of_nonneg (by positivity), div_lt_iff₀ (by norm_num),
    ← magVal_infBits] at h
  linarith

/-! ## The slew limit and the output clamp (R165, R166) -/

/-- A sum that does not overflow is finite, and no finite value is nearer to the exact sum. -/
theorem fadd_finite_nearest {a b : F32} (ha : isFiniteEnc a) (hb : isFiniteEnc b)
    (hfin : |exact a + exact b| < 2 ^ 128 - 2 ^ 103) :
    isFiniteEnc (fadd a b) ∧
      ∀ c, isFiniteEnc c → |exact (fadd a b) - (exact a + exact b)| ≤ |exact c - (exact a + exact b)| := by
  obtain ⟨-, -, -, -, hadd⟩ := addIsIeee a b
  obtain ⟨hnear, hzero⟩ := hadd ha hb
  by_cases h0 : exact a + exact b = 0
  · have hz : exact (fadd a b) = 0 := by
      rw [hzero h0, signedZero_eq, exact_fPack _ (by norm_num), magVal_zero]; simp
    exact ⟨isFiniteEnc_of_abs_exact_lt (by rw [hz]; norm_num), fun c _ => by rw [h0, hz]; simp⟩
  · obtain ⟨-, hround⟩ := hnear h0
    obtain ⟨hf, -, hmin⟩ := hround hfin
    exact ⟨hf, fun c hc => (hmin c hc).1⟩

/-- Below 1 the last place kept is 2^-24 or less. -/
theorem ulpExp_le {n : Nat} (h : n < 2 ^ 149) : ulpExp n 1 ≤ 125 := by
  have : n.log2 < 149 := by
    rcases Nat.eq_zero_or_pos n with rfl | hn
    · simp
    · exact (Nat.log2_lt hn.ne').mpr h
  rw [ulpExp, Nat.div_one]
  omega

/-- A sum below 1 is rounded by at most 2^-25. -/
theorem fadd_error {a b : F32} (ha : isFiniteEnc a) (hb : isFiniteEnc b) (hlt : |exact a + exact b| < 1) :
    |exact (fadd a b) - (exact a + exact b)| ≤ 1 / 2 ^ 25 := by
  rw [exact_add_exact] at hlt ⊢
  rw [fadd_finite ha hb]
  generalize fVal a + fVal b = v at *
  split_ifs with h0
  · rw [exact_fPack _ (by norm_num), h0, magVal_zero]; norm_num
  have habs : |(v : ℚ)| = v.natAbs := by rw [Nat.cast_natAbs, Int.cast_abs]
  rw [abs_div, abs_of_pos (by norm_num : (0 : ℚ) < 2 ^ 149), div_lt_one (by norm_num), habs] at hlt
  have hulp : (2 ^ ulpExp v.natAbs 1 : ℚ) ≤ 2 ^ 125 :=
    pow_le_pow_right₀ (by norm_num) (ulpExp_le (by exact_mod_cast hlt))
  have herr := roundBits_error v.natAbs Nat.one_pos (by
    rw [magVal_infBits, magVal_maxFinite, Nat.cast_one, div_one]; norm_num at hlt ⊢; linarith)
  rw [fRound, exact_fPack _ ((roundBits_le _ _).trans_lt (by decide)), ← signVal_mul_natAbs v, abs_sub_same_sign,
    div_le_iff₀ (by norm_num)]
  rw [Nat.cast_one, div_one] at herr
  linarith

/-- A value `s` that rounds `v`, clamped to bounds that hold `last`, is as far from `last` as `v` and the rounding. -/
theorem abs_clamp_sub_le {lo hi last v s σ ε : ℚ} (hlo : lo ≤ last) (hhi : last ≤ hi) (hε : 0 ≤ ε)
    (hmove : |v - last| ≤ σ) (hbelow : v ≤ lo → s ≤ lo) (habove : hi ≤ v → hi ≤ s)
    (hin : lo < v → v < hi → |s - v| ≤ ε) : |max lo (min s hi) - last| ≤ σ + ε := by
  obtain ⟨hm1, hm2⟩ := abs_le.mp hmove
  rw [abs_le]
  rcases le_or_gt v lo with hv | hv
  · rw [max_eq_left ((min_le_left _ _).trans (hbelow hv))]
    constructor <;> linarith
  rcases le_or_gt hi v with hv' | hv'
  · rw [min_eq_right (habove hv'), max_eq_right (hlo.trans hhi)]
    constructor <;> linarith
  obtain ⟨he1, he2⟩ := abs_le.mp (hin hv hv')
  constructor
  · linarith [le_max_right lo (min s hi), le_min (show last - σ - ε ≤ s by linarith)
      (show last - σ - ε ≤ hi by linarith)]
  · linarith [max_le (show lo ≤ last + σ + ε by linarith)
      ((min_le_left s hi).trans (show s ≤ last + σ + ε by linarith))]

/-- What a legal configuration says of the slew limit and the output bounds, in exact values. -/
structure LimitsInRange (g : ChanCfg) : Prop where
  slew_finite : isFiniteEnc g.slewMax
  slew_nonneg : 0 ≤ exact g.slewMax
  min_finite : isFiniteEnc g.dutyMin
  max_finite : isFiniteEnc g.dutyMax
  min_nonneg : 0 ≤ exact g.dutyMin
  min_le_max : exact g.dutyMin ≤ exact g.dutyMax
  max_le_one : exact g.dutyMax ≤ 1

theorem exact_fZero : exact fZero = 0 := by norm_num [exact, magBits, fZero]

theorem exact_fOne : exact fOne = 1 := by
  norm_num [exact, magBits, fOne, show (0x3F800000#32 : BitVec 32)[31] = false from rfl]

theorem legalLimit_iff (v : F32) : legalLimit v = true ↔ isFiniteEnc v ∧ 0 ≤ exact v := by
  rw [legalLimit, Bool.and_eq_true, finite_iff, Bool.not_eq_true']
  exact and_congr_right fun h => by rw [flt_false_iff (not_isnan_of_finite h) (by decide), exact_fZero]

theorem limitsInRange_of_legal {g : ChanCfg} (h : g.legal = true) : LimitsInRange g := by
  simp only [ChanCfg.legal, Bool.and_eq_true, legalLimit_iff, finite_iff, Bool.not_eq_true', fgt] at h
  obtain ⟨⟨⟨⟨⟨⟨⟨⟨-, hsf, hs0⟩, -⟩, -⟩, hlf, hl0⟩, hhf⟩, hle⟩, h1⟩, -⟩ := h
  have hn := not_isnan_of_finite hlf
  have hn' := not_isnan_of_finite hhf
  exact ⟨hsf, hs0, hlf, hhf, hl0, (flt_false_iff hn' hn).mp hle, exact_fOne ▸ (flt_false_iff (by decide) hn').mp h1⟩

/-- The step the slew limit gives is a finite value of at most SLEW_MAX (R165). -/
theorem slewStep_bounded {g : ChanCfg} (hg : LimitsInRange g) {x : F32} (hx : isnan x = false) :
    isFiniteEnc (fclamp x (fneg g.slewMax) g.slewMax) ∧
      |exact (fclamp x (fneg g.slewMax) g.slewMax)| ≤ exact g.slewMax := by
  have hnan := not_isnan_of_finite hg.slew_finite
  have hnonneg := hg.slew_nonneg
  have hmax := abs_exact_le_of_finite hg.slew_finite
  rw [abs_of_nonneg hnonneg] at hmax
  have hbound : |exact (fclamp x (fneg g.slewMax) g.slewMax)| ≤ exact g.slewMax := by
    rw [exact_fclamp hx (by rw [isnan_fneg, hnan]) hnan (by rw [exact_fneg]; linarith), exact_fneg]
    exact abs_le.mpr ⟨le_max_left _ _, max_le (by linarith) (min_le_right _ _)⟩
  exact ⟨isFiniteEnc_of_abs_exact_lt (by linarith), hbound⟩

/-- A duty that is no NaN came from a difference that is none. -/
theorem slewInput_not_nan {g : ChanCfg} {p : Pid} {raw : F32} (h : isnan (pidLimit g p raw) = false) :
    isnan (fsub raw p.lastOut) = false := by
  by_contra hx
  rw [Bool.not_eq_false] at hx
  rw [pidLimit, fclamp_nan hx, fadd_nan (by rw [hx, Bool.or_true]), fclamp_nan isnan_qNaN, isnan_qNaN] at h
  cases h

/-- The exact form of R171: from a last output inside the bounds, whatever the raw value, a duty moves by at most SLEW_MAX
and the rounding of one sum below 1. -/
theorem pidLimit_move {g : ChanCfg} (hg : LimitsInRange g) {p : Pid} {raw : F32}
    (hout : isnan (pidLimit g p raw) = false)
    (hmin : exact g.dutyMin ≤ exact p.lastOut) (hmax : exact p.lastOut ≤ exact g.dutyMax) :
    |exact (pidLimit g p raw) - exact p.lastOut| ≤ exact g.slewMax + 1 / 2 ^ 25 := by
  have hmin0 := hg.min_nonneg
  have hmax1 := hg.max_le_one
  obtain ⟨hdf, hd⟩ := slewStep_bounded hg (slewInput_not_nan hout)
  have hslew := abs_exact_le_of_finite hg.slew_finite
  rw [abs_of_nonneg hg.slew_nonneg] at hslew
  unfold pidLimit
  generalize fclamp (fsub raw p.lastOut) (fneg g.slewMax) g.slewMax = δ at *
  obtain ⟨hd1, hd2⟩ := abs_le.mp hd
  have hlf : isFiniteEnc p.lastOut :=
    isFiniteEnc_of_abs_exact_lt (by rw [abs_lt]; constructor <;> linarith)
  obtain ⟨hsf, hnear⟩ := fadd_finite_nearest hlf hdf (by rw [abs_lt]; constructor <;> linarith)
  rw [exact_fclamp (not_isnan_of_finite hsf) (not_isnan_of_finite hg.min_finite) (not_isnan_of_finite hg.max_finite)
    hg.min_le_max]
  refine abs_clamp_sub_le (v := exact p.lastOut + exact δ) hmin hmax (by norm_num) (by rwa [add_sub_cancel_left])
    (fun hv => ?_) (fun hv => ?_) fun hv hv' => ?_
  · have h := hnear _ hg.min_finite
    rw [abs_of_nonneg (sub_nonneg.mpr hv)] at h
    linarith [le_of_abs_le h]
  · have h := hnear _ hg.max_finite
    rw [abs_of_nonpos (sub_nonpos.mpr hv)] at h
    linarith [neg_le_of_abs_le h]
  · exact fadd_error hlf hdf (by rw [abs_lt]; constructor <;> linarith)

/-- R171 in units of 2^-149, of which 2^-25 holds 2^124. -/
theorem pidOut_moves_within_slew {g : ChanCfg} {p : Pid} {target current dt : F32} (hg : g.legal = true)
    (hlast : isnan p.lastOut = false) (hmin : flt p.lastOut g.dutyMin = false)
    (hmax : fgt p.lastOut g.dutyMax = false) (hout : isnan (pidOut g p target current dt) = false) :
    |fVal (pidOut g p target current dt) - fVal p.lastOut| ≤ fVal g.slewMax + 2 ^ 124 := by
  have hr := limitsInRange_of_legal hg
  have hmove := pidLimit_move hr hout ((flt_false_iff hlast (not_isnan_of_finite hr.min_finite)).mp hmin)
    ((flt_false_iff (not_isnan_of_finite hr.max_finite) hlast).mp hmax)
  change |exact (pidOut g p target current dt) - _| ≤ _ at hmove
  have hunits : (|fVal (pidOut g p target current dt) - fVal p.lastOut| : ℚ) ≤ fVal g.slewMax + 2 ^ 124 := by
    rw [fVal_eq, fVal_eq, fVal_eq, ← sub_mul, abs_mul, abs_of_pos (by norm_num : (0 : ℚ) < 2 ^ 149)]
    linarith
  exact_mod_cast hunits

/-- Settles O31: the primitives round the exact result (`addIsIeee`, `mulIsIeee`, `divIsIeee`, `f32OfInt_nearest`), and the
output clamp leaves a duty at most SLEW_MAX and one rounding from the last output (`pidOut_moves_within_slew`). -/
theorem slewIsBounded : Obligations.SlewIsBounded := by
  refine ⟨fun a b => ⟨addIsIeee a b, rfl, mulIsIeee a b, divIsIeee a b, testsAreIeee a b, rfl, rfl⟩,
    fun n => ⟨f32OfInt_nearest, fun h => h ▸ f32OfInt_zero⟩, ?_⟩
  intro g p target current dt hg hlast hmin hmax hout
  exact pidOut_moves_within_slew hg hlast hmin hmax hout

end Sys2Proof.Proofs
end

section
/-! The word bus (R22, R47, R70): which register an offset names, what one access of the bus phase does to the state, and the
command words that SOFT_RESET and the frames do or do not have. -/

namespace Sys2Proof.Proofs

open Sys2Proof Sys2Proof.Machine Sys2Proof.Spec

/-! ## The address map (R22, R47) -/

/-- The mask of R70 clears bits 1:0. -/
theorem alignMask_eq_shift (addr : Word) : addr &&& 0xFFFFFFFC#32 = addr >>> 2 <<< 2 := by
  have hmask : ∀ i : Fin 32, (0xFFFFFFFC#32).getLsbD i = decide (2 ≤ i.val) := by decide
  refine BitVec.eq_of_getLsbD_eq fun i hi => ?_
  have hbit := hmask ⟨i, hi⟩
  by_cases h2 : 2 ≤ i
  · simp [hbit, h2, hi, Nat.not_lt.mpr h2, Nat.add_sub_of_le h2]
  · simp [hbit, h2, Nat.not_le.mp h2]

theorem toNat_aligned (addr : Word) : (addr &&& 0xFFFFFFFC#32).toNat = offset addr := by
  rw [alignMask_eq_shift, offset, BitVec.toNat_shiftLeft, BitVec.toNat_ushiftRight, Nat.shiftLeft_eq,
    Nat.shiftRight_eq_div_pow]
  omega

theorem regMap_offset : ∀ e ∈ regMap, e.1 = regOffset e.2 := by decide

/-- The search of the map at a register's offset finds that register, so no two share one. -/
theorem regMap_find_offset (r : Reg) : (regMap.find? fun e => e.1 == regOffset r).map (·.2) = some r := by
  cases r with
  | chan c q => cases c <;> cases q <;> decide
  | _ => decide

theorem regAt_eq_find (addr : Word) : regAt addr = (regMap.find? fun e => e.1 == offset addr).map (·.2) := by
  rw [regAt, toNat_aligned]

/-- An address names a register exactly when its word offset is the register's (R22, R47, R70). -/
theorem regAt_eq_some_iff {addr : Word} {r : Reg} : regAt addr = some r ↔ offset addr = regOffset r := by
  rw [regAt_eq_find]
  constructor
  · intro h
    obtain ⟨e, he, rfl⟩ := Option.map_eq_some_iff.mp h
    rw [← regMap_offset e (List.mem_of_find?_eq_some he)]
    exact (beq_iff_eq.mp (List.find?_some (p := fun e : Nat × Reg => e.1 == offset addr) he)).symm
  · intro h
    rw [h, regMap_find_offset]

/-! ## The access of a cycle (R70, R120) -/

theorem busOp_cmd {addr v : Word} (h : offset addr = 0x018) : busOp (some (wr addr v)) = .command v := by
  simp [busOp, wr, regAt_eq_some_iff.mpr (show offset addr = regOffset .cmd from h)]

theorem busOp_store {addr v : Word} {r : Reg} (h : regAt addr = some r) (hr : r ≠ .cmd) :
    busOp (some (wr addr v)) = .store r v := by
  simp only [busOp, wr, h, if_true]

/-- A store is a write with all byte enables of a listed register other than CMD. -/
theorem busOp_eq_store {b : Option BusAccess} {r : Reg} {v : Word} (h : busOp b = .store r v) :
    ∃ addr, b = some (wr addr v) ∧ regAt addr = some r := by
  unfold busOp at h
  split at h
  · cases h
  · cases h
  · rename_i addr en w
    split_ifs at h with hen
    split at h
    · cases h
    · cases h; exact ⟨addr, by rw [hen]; rfl, by assumption⟩
    · cases h

/-- A command is a write with all byte enables of CMD. -/
theorem busOp_eq_command {b : Option BusAccess} {w : Word} (h : busOp b = .command w) :
    ∃ addr, b = some (wr addr w) ∧ offset addr = 0x018 := by
  unfold busOp at h
  split at h
  · cases h
  · cases h
  · rename_i addr en v
    split_ifs at h with hen
    split at h
    · rename_i hr; cases h; exact ⟨addr, by rw [hen]; rfl, regAt_eq_some_iff.mp hr⟩
    · cases h
    · cases h

theorem busTaken_eq_done (s : State) : s.busTaken = done s := rfl

theorem step_of_busOp_nothing {s : State} (hp : s.phase = .bus) (h : busOp s.bus = .nothing) :
    step s = .next (done s) := by
  simp [step, hp, busPhase, h, busTaken_eq_done]

/-- A bus write of a register other than CMD is that register's write, with the access taken. -/
theorem step_write {s : State} {addr v : Word} {r : Reg} (hb : onBus s (wr addr v)) (hr : regAt addr = some r)
    (hc : r ≠ .cmd) : step s = .next (writeReg r v (done s)) := by
  simp [step, hb.1, busPhase, hb.2, busOp_store hr hc, busTaken_eq_done]

/-- A bus write of CMD runs the word as a command, with the access taken. -/
theorem step_command {s : State} {addr w : Word} (hb : onBus s (wr addr w)) (ha : offset addr = 0x018) :
    step s = runCommand w (done s) := by
  simp [step, hb.1, busPhase, hb.2, busOp_cmd ha, busTaken_eq_done]

/-! ## Which words are SOFT_RESET (R91), and that no frame is (R106) -/

theorem plainOp_eq_ok {i j : Instr} {ch : BitVec 4} : plainOp i ch = .ok j ↔ ch = 0#4 ∧ i = j := by
  by_cases h : ch = 0#4 <;> simp [plainOp, h]

theorem channelOp_eq_ok {f : BitVec 4 → Instr} {j : Instr} {ch : BitVec 4} :
    channelOp f ch = .ok j ↔ ch.toNat < 2 ∧ f ch = j := by
  by_cases h : ch.toNat < 2 <;> simp [channelOp, h]

/-- R91's operation map has SOFT_RESET at 0x7F only. -/
theorem decodeOp_softReset {op : Byte} {ch : BitVec 4} (h : decodeOp op ch = .ok .softReset) :
    op.toNat = 0x7F ∧ ch = 0#4 := by
  unfold decodeOp at h
  split at h <;> simp_all [plainOp_eq_ok, channelOp_eq_ok]

theorem decodeCmd_softReset {w : Word} (h : decodeCmd w = .ok .softReset) : w = 0x7F#32 := by
  unfold decodeCmd at h
  split_ifs at h with hres
  obtain ⟨hop, hch⟩ := decodeOp_softReset h
  have hres := congrArg BitVec.toNat (not_not.mp hres)
  have hch := congrArg BitVec.toNat hch
  simp only [BitVec.extractLsb'_toNat, Nat.shiftRight_eq_div_pow, BitVec.toNat_ofNat] at hres hop hch
  refine BitVec.eq_of_toNat_eq ?_
  simp only [BitVec.toNat_ofNat]
  omega

theorem bind_ne_some {α β : Type} {o : Option α} {f : α → Option β} {x : β} (h : ∀ a, f a ≠ some x) :
    (o >>= f) ≠ some x := by
  cases o with
  | none => simp
  | some a => exact h a

theorem takeVel_ne_softReset {cw : SumWidth} {bs rest : List Byte} : takeVel cw bs ≠ some (.softReset, rest) := by
  unfold takeVel
  iterate 3 refine bind_ne_some fun _ => ?_
  simp

theorem takeTlm_ne_softReset {cw : SumWidth} {bs rest : List Byte} : takeTlm cw bs ≠ some (.softReset, rest) := by
  unfold takeTlm
  iterate 13 refine bind_ne_some fun _ => ?_
  simp

theorem decodeBody_ne_softReset {cwc cwt : SumWidth} {id : Byte} {len : Half} {bs rest : List Byte} :
    decodeBody cwc cwt id len bs ≠ .ok (.softReset, rest) := by
  unfold decodeBody
  split_ifs
  · cases h : takeVel cwc bs with
    | none => simp
    | some x => rintro ⟨⟩; exact takeVel_ne_softReset h
  · simp
  · cases h : takeTlm cwt bs with
    | none => simp
    | some x => rintro ⟨⟩; exact takeTlm_ne_softReset h
  · simp
  · simp

/-- The bytes of the line carry frames only, never a command (R106). -/
theorem nextFrame_ne_softReset (s : State) (rest : List Byte) : s.nextFrame ≠ some (.softReset, rest) := by
  unfold State.nextFrame decodeFrame
  split
  · split_ifs
    · cases h : decodeBody (sumWidth s.csum16Cmd) (sumWidth s.csum16Tlm) _ _ _ with
      | error e => simp [Except.toOption]
      | ok x => rintro ⟨⟩; exact decodeBody_ne_softReset h
    · simp [Except.toOption]
  · simp [Except.toOption]

end Sys2Proof.Proofs
end

section
/-! What a step can do, said once for every invariant: apart from the begin of a cycle, the clock, a register write and
SOFT_RESET, every step is a chain of the moves below. -/

namespace Sys2Proof.Proofs

open Sys2Proof Sys2Proof.Machine Sys2Proof.Spec

/-! ## The moves -/

/-- A role reports a condition only in its own units, and with a channel only where R261 has one. -/
def mayReport (r : Role) (k : BitVec 4) : ErrKind → Bool
  | .numFault c => r == .controller && k == c.field
  | .cmdInNonfinite => r == .host && k == 0#4
  | .argNonfinite | .argRange => k == 0#4 || k == 1#4
  | _ => k == 0#4

/-- A change of the codec's queues that keeps each within its bound, and keeps the queues of a down link empty (R241). -/
structure QueueChange (s : State) (cd : Codec) : Prop where
  txq : s.codec.txq.length ≤ Config.txCap → cd.txq.length ≤ Config.txCap
  rxq : s.codec.rxq.length ≤ Config.rxFrameCap → cd.rxq.length ≤ Config.rxFrameCap
  rxbuf : s.codec.rxbuf.length ≤ rxBufBound s.par.role → cd.rxbuf.length ≤ rxBufBound s.par.role
  down : s.link.state = .down → s.codec = .atReset → cd = .atReset

/-- One elementary change of the state, with what its callers guarantee about it. -/
inductive Move (s : State) : State → Prop
  /-- An error report (R262). -/
  | report (e : ErrKind) (k : BitVec 4) (h : mayReport s.par.role k e = true) : Move s (raiseError e k s)
  /-- STALEc or SATc of STATUS is set, at CONTROLLER (R149, R161). -/
  | channelBit (i : Nat) (hr : s.par.role = .controller) (h : 14 ≤ i ∧ i < 18) : Move s (s.setSticky i)
  /-- A command's RESULT (R31). -/
  | result (w : Word) : Move s (s.setResult w)
  /-- The link counters, the latches of popped frames and the model's own fields. -/
  | record (cnt : Counters) (vel : VelLatch) (lat : TlmLatch) (bus : Option BusAccess) (rxb : List Byte) (rdata : Word)
      (phase : Phase) (freeCtr : Nat) :
      Move s { s with
        cnt := cnt, vel := vel, lat := lat, bus := bus, rxb := rxb, rdata := rdata, phase := phase, freeCtr := freeCtr }
  /-- LINK_STEP remembers what it sent (R245). -/
  | sent (v w : F32) : Move s (recordSent v w s)
  /-- A reconnect attempt that fails (R242). -/
  | linkRetried : Move s { s with link := { s.link with downSinceMs := s.now } }
  /-- A reconnect attempt that succeeds (R242). -/
  | linkUp : Move s { s with
      link := { s.link with state := .up, sentSinceUp := false }, urx := { s.urx with state := .waitHigh } }
  /-- The link goes down and both byte paths are flushed (R241). -/
  | linkDown : Move s { s with
      link := { s.link with state := .down, downSinceMs := s.now }
      codec := .atReset
      utx := { s.utx with busy := false, pin := true }
      urx := { s.urx with state := .idle } }
  /-- Bytes or frames enter or leave the queues (R206 to R217, R233). -/
  | queues (cd : Codec) (h : QueueChange s cd) : Move s { s with codec := cd }
  /-- The transmitter loads a byte or shifts (R233). -/
  | transmitter (u : UartTx) (hc : 2 ≤ s.ctl.baudDiv.toNat → s.utx.inRange = true → u.inRange = true)
      (hd : s.link.state = .down → s.utx.busy = false → u.busy = false) : Move s { s with utx := u }
  /-- The receiver moves while the link is up (R234, R244). -/
  | receiver (u : UartRx) (hl : s.link.state = .up)
      (hc : 2 ≤ s.ctl.baudDiv.toNat → s.urx.inRange = true → u.inRange = true) : Move s { s with urx := u }
  /-- An encoder's count, window or cached RPM (R141 to R146). -/
  | encoder (c : Chan) (e : Enc)
      (h : (s.ch c).enc.win.length ≤ Config.winCap → e.win.length ≤ Config.winCap) : Move s (s.setEnc c e)
  /-- The control law's state (R161, R167, R170). -/
  | law (c : Chan) (p : Pid) (hi : isnan p.integral = false) (he : isnan p.lastErr = false)
      (ho : (s.ch c).cfg.legal = true → inDuty p.lastOut = true) : Move s (s.setPid c p)
  /-- The motor loop's state (R180 to R191). -/
  | motor (c : Chan) (m : Motor)
      (h : (s.ch c).mot.bounded s.ctl.pwmTop = true → inDuty (s.ch c).pid.lastOut = true →
        m.bounded s.ctl.pwmTop = true) : Move s (s.setMot c m)

/-- A chain of moves. -/
abbrev Moves : State → State → Prop := Relation.ReflTransGen Move

theorem Moves.refl {s : State} : Moves s s := Relation.ReflTransGen.refl

theorem Move.moves {s t : State} (h : Move s t) : Moves s t := Relation.ReflTransGen.single h

/-- What every move keeps, a chain keeps. -/
theorem Moves.keep {P : State → Prop} (hP : ∀ s t, Move s t → P s → P t) {s t : State} (h : Moves s t) (hs : P s) :
    P t := by
  induction h with
  | refl => exact hs
  | tail _ hm ih => exact hP _ _ hm ih

/-! ## What no move changes -/

theorem Move.par {s t : State} (h : Move s t) : t.par = s.par := by
  cases h <;> simp

/-- Only the clock's phase and power-on reset change the clock (R280). -/
theorem Move.clk {s t : State} (h : Move s t) : t.clk = s.clk := by
  cases h <;> simp

/-- No move clears a sticky bit (R264). -/
theorem Move.sticky {s t : State} (h : Move s t) (i : Nat) (hi : s.ctl.sticky.getLsbD i = true) :
    t.ctl.sticky.getLsbD i = true := by
  cases h with
  | report e k _ => exact raiseError_sticky_mono e k s i hi
  | channelBit j _ _ => simp [State.setSticky, hi]
  | _ => simpa using hi

theorem Moves.par {s t : State} (h : Moves s t) : t.par = s.par :=
  h.keep (P := fun x => x.par = s.par) (fun _ _ hm hp => hm.par.trans hp) rfl

theorem Moves.clk {s t : State} (h : Moves s t) : t.clk = s.clk :=
  h.keep (P := fun x => x.clk = s.clk) (fun _ _ hm hp => hm.clk.trans hp) rfl

theorem Moves.sticky {s t : State} (h : Moves s t) {i : Nat} (hi : s.ctl.sticky.getLsbD i = true) :
    t.ctl.sticky.getLsbD i = true :=
  h.keep (P := fun x => x.ctl.sticky.getLsbD i = true) (fun _ _ hm => hm.sticky i) hi

end Sys2Proof.Proofs
end

section
/-! Duties, motor loops and the control law (R161, R167, R190, R191): a duty in [0, 1] by its exact value, and what the law
and the PWM generator keep in range. -/

namespace Sys2Proof.Proofs

open Sys2Proof Sys2Proof.Machine Sys2Proof.Spec

/-! ## A duty in [0, 1] (R190) -/

theorem inDuty_iff (x : F32) : inDuty x = true ↔ isnan x = false ∧ 0 ≤ exact x ∧ exact x ≤ 1 := by
  simp only [inDuty, Bool.and_eq_true, Bool.not_eq_true', fgt, and_assoc]
  refine and_congr_right fun hx => ?_
  rw [flt_false_iff hx (by decide), flt_false_iff (by decide) hx, exact_fZero, exact_fOne]

theorem not_isnan_of_inDuty {x : F32} (h : inDuty x = true) : isnan x = false := ((inDuty_iff x).mp h).1

theorem inDuty_fZero : inDuty fZero = true := by decide

/-- The compare value of a duty is at most TOP + 1 (R191). -/
theorem pwmConv_le {x : F32} (h : inDuty x = true) (top : BitVec 16) : (pwmConv x top).toNat ≤ top.toNat + 1 := by
  obtain ⟨-, h0, h1⟩ := (inDuty_iff x).mp h
  have hfin : finite x = true :=
    (finite_iff x).mpr (isFiniteEnc_of_abs_exact_lt (by rw [abs_lt]; constructor <;> linarith))
  have hsign : (fSign x && fMag x != 0) = false := by
    by_contra hneg
    simp only [Bool.not_eq_false, Bool.and_eq_true, bne_iff_ne] at hneg
    obtain ⟨hs, hm⟩ := hneg
    have hpos : (0 : ℚ) < fMag x := by exact_mod_cast Nat.pos_of_ne_zero hm
    rw [exact_eq_fMag, hs] at h0
    simp only [signVal, if_true] at h0
    linarith
  rw [pwmConv, hfin, hsign, if_neg (by decide), BitVec.toNat_ofNat]
  exact (Nat.mod_le _ _).trans (Nat.min_le_left _ _)

/-- The output clamp of a legal configuration gives a duty (R166, R172). -/
theorem inDuty_fclamp {g : ChanCfg} (hg : g.legal = true) {x : F32} (hx : isnan (fclamp x g.dutyMin g.dutyMax) = false) :
    inDuty (fclamp x g.dutyMin g.dutyMax) = true := by
  have hr := limitsInRange_of_legal hg
  have hle := hr.min_le_max
  have hxn : isnan x = false := by
    by_contra hn
    rw [Bool.not_eq_false] at hn
    rw [fclamp_nan hn, hn] at hx
    cases hx
  rw [inDuty_iff, exact_fclamp hxn (not_isnan_of_finite hr.min_finite) (not_isnan_of_finite hr.max_finite) hle]
  exact ⟨hx, hr.min_nonneg.trans (le_max_left _ _), max_le (hle.trans hr.max_le_one) ((min_le_right _ _).trans hr.max_le_one)⟩

/-! ## The law's new state holds no NaN (R167) -/

theorem fadd_not_nan {a b : F32} (h : isnan (fadd a b) = false) : isnan a = false ∧ isnan b = false := by
  rw [← Bool.or_eq_false_iff]
  by_contra hn
  rw [fadd_nan (Bool.not_eq_false _ ▸ hn), isnan_qNaN] at h
  cases h

theorem fmul_not_nan {a b : F32} (h : isnan (fmul a b) = false) : isnan a = false ∧ isnan b = false := by
  rw [← Bool.or_eq_false_iff]
  by_contra hn
  rw [fmul_nan (Bool.not_eq_false _ ▸ hn), isnan_qNaN] at h
  cases h

/-- A NaN in the error or the integral would show in `raw`, hence in the duty. -/
theorem pidRaw_not_nan {g : ChanCfg} {p : Pid} {target e i dt : F32} (h : isnan (pidRaw g p target e i dt) = false) :
    isnan e = false ∧ isnan i = false := by
  obtain ⟨hpid, -⟩ := fadd_not_nan h
  obtain ⟨hpi, -⟩ := fadd_not_nan hpid
  obtain ⟨hp, hi⟩ := fadd_not_nan hpi
  exact ⟨(fmul_not_nan hp).2, (fmul_not_nan hi).2⟩

theorem pidStored_not_nan {g : ChanCfg} {p : Pid} {target current dt : F32}
    (h : isnan (pidOut g p target current dt) = false) :
    isnan (pidStored g p target current dt).integral = false ∧ isnan (pidStored g p target current dt).lastErr = false :=
  (pidRaw_not_nan (fadd_not_nan (slewInput_not_nan h)).1).symm

/-! ## Motor loops in range (R54, R190, R191) -/

theorem motorBounded_iff (top : BitVec 16) (m : Motor) :
    m.bounded top = true ↔ finite m.target = true ∧ fSign m.target = false ∧ inDuty m.pendDuty = true ∧
      m.pwmCmp.toNat ≤ top.toNat + 1 ∧ m.pwmCnt ≤ top.toNat := by
  simp [Motor.bounded, and_assoc]

theorem zeroMotor_bounded {top : BitVec 16} {m : Motor} (h : m.bounded top = true) : (zeroMotor m).bounded top = true := by
  rw [motorBounded_iff] at h ⊢
  obtain ⟨hf, hs, -, -, hn⟩ := h
  exact ⟨hf, hs, inDuty_fZero, Nat.zero_le _, hn⟩

theorem bounded_zeroTarget {top : BitVec 16} {m : Motor} (h : m.bounded top = true) :
    ({ m with target := fZero } : Motor).bounded top = true := by
  rw [motorBounded_iff] at h ⊢
  obtain ⟨-, -, hrest⟩ := h
  exact ⟨(by decide : finite fZero = true), (by decide : fSign fZero = false), hrest⟩

theorem finite_fabs (x : F32) : finite (fabs x) = finite x := by
  have h : fExp (fabs x) = fExp x := by
    refine congrArg BitVec.toNat (BitVec.eq_of_getLsbD_eq fun i hi => ?_)
    have hmask : ∀ i : Fin 8, (0x7FFFFFFF#32).getLsbD (23 + i) = true := by decide
    simp [fabs, hi, hmask ⟨i, hi⟩]
  rw [finite, finite, h]

theorem fSign_fabs (x : F32) : fSign (fabs x) = false := by
  simp [fSign, fabs]

/-- SET_TARGET stores a finite magnitude (R180). -/
theorem bounded_driven {top : BitVec 16} {m : Motor} (h : m.bounded top = true) {rpm : F32} (hf : finite rpm = true)
    (neg : Bool) : ({ m with target := fabs rpm, dirNeg := neg, brake := false } : Motor).bounded top = true := by
  rw [motorBounded_iff] at h ⊢
  obtain ⟨-, -, hrest⟩ := h
  exact ⟨(finite_fabs rpm).trans hf, fSign_fabs rpm, hrest⟩

theorem bounded_pendDuty {top : BitVec 16} {m : Motor} (h : m.bounded top = true) {d : F32} (hd : inDuty d = true) :
    ({ m with pendDuty := d } : Motor).bounded top = true := by
  rw [motorBounded_iff] at h ⊢
  obtain ⟨hf, hs, -, hcmp⟩ := h
  exact ⟨hf, hs, hd, hcmp⟩

/-- A restarted period is in range for the new TOP, whatever the old one was (R191). -/
theorem pwmRestart_bounded {top' : BitVec 16} {m : Motor} (h : m.bounded top' = true) (top : BitVec 16) :
    (pwmRestart top m).bounded top = true := by
  rw [motorBounded_iff] at h ⊢
  obtain ⟨hf, hs, hd, -, -⟩ := h
  exact ⟨hf, hs, hd, pwmConv_le hd top, Nat.zero_le _⟩

theorem pwmTick_bounded {top : BitVec 16} {m : Motor} (h : m.bounded top = true) : (pwmTick top m).bounded top = true := by
  rw [motorBounded_iff] at h
  obtain ⟨hf, hs, hd, hcmp, hcnt⟩ := h
  unfold pwmTick
  dsimp only
  split_ifs with hend
  · exact (motorBounded_iff _ _).mpr ⟨hf, hs, hd, pwmConv_le hd top, Nat.zero_le _⟩
  · exact (motorBounded_iff _ _).mpr ⟨hf, hs, hd, hcmp, by simp only; omega⟩

end Sys2Proof.Proofs
end

section
/-! Every operation of the block but a register write and SOFT_RESET is a chain of moves: the codec, the UART, the link, the
encoder, the control law and the motor loop, and with them every instruction. -/

namespace Sys2Proof.Proofs

open Sys2Proof Sys2Proof.Machine Sys2Proof.Spec

/-! ## Commands: roles, channels, operands -/

theorem raiseError_moves {e : ErrKind} (s : State) (h : mayReport s.par.role 0#4 e = true) :
    Moves s (raiseError e 0#4 s) := (Move.report e 0#4 h).moves

theorem inRole_moves {r : Role} {s f : State} (h : s.par.role = r → Moves s f) : Moves s (inRole r s f) := by
  rcases inRole_cases r s f with ⟨hr, e⟩ | ⟨-, e⟩ <;> rw [e]
  · exact h hr
  · exact raiseError_moves s rfl

theorem onChannel_moves {ch : BitVec 4} {s : State} {f : Chan → State}
    (h : ∀ c, s.par.role = .controller → Moves s (f c)) : Moves s (onChannel ch s f) := by
  rcases onChannel_cases ch s f with ⟨hr, c, -, e⟩ | ⟨-, -, e⟩ | ⟨-, e⟩ <;> rw [e]
  · exact h c hr
  · exact raiseError_moves s rfl
  · exact raiseError_moves s rfl

theorem needFinite_moves {a : F32} {k : BitVec 4} {s f : State} (hk : k = 0#4 ∨ k = 1#4)
    (h : finite a = true → Moves s f) : Moves s (needFinite a k s f) := by
  rcases needFinite_cases a k s f with ⟨ha, e⟩ | ⟨-, e⟩ <;> rw [e]
  · exact h ha
  · exact (Move.report _ k (by rcases hk with rfl | rfl <;> rfl)).moves

theorem needRange_moves {ok : Bool} {k : BitVec 4} {s f : State} (hk : k = 0#4 ∨ k = 1#4) (h : Moves s f) :
    Moves s (needRange ok k s f) := by
  rcases needRange_cases ok k s f with ⟨-, e⟩ | ⟨-, e⟩ <;> rw [e]
  · exact h
  · exact (Move.report _ k (by rcases hk with rfl | rfl <;> rfl)).moves

theorem chanField_cases (c : Chan) : c.field = 0#4 ∨ c.field = 1#4 := by cases c <;> decide

theorem setResult_moves {s t : State} (h : Moves s t) (w : Word) : Moves s (t.setResult w) := h.tail (.result w)

/-! ## The transmit and receive queues (R206, R215) -/

theorem enqueue_moves (f : List Byte) (s : State) : Moves s (enqueue f s) := by
  rcases enqueue_cases f s with ⟨-, -, e⟩ | ⟨-, -, -, e⟩ | ⟨hl, hf, -, e⟩
  · rw [e]
  · rw [e]
    exact raiseError_moves s rfl
  · rw [e]
    have hq : QueueChange s { s.codec with txq := s.codec.txq ++ f } :=
      ⟨fun h => by simp only [List.length_append]; omega, id, id, fun h => absurd (hl.symm.trans h) nofun⟩
    exact (Move.queues _ hq).moves.tail (.record _ _ _ _ _ _ _ _)

theorem popFrame_moves (s : State) : Moves s (popFrame s) := by
  rcases popFrame_cases s with ⟨-, e⟩ | ⟨f, q, hq, e⟩
  · rw [e]
  · rw [e]
    have hc : QueueChange s { s.codec with rxq := q } :=
      ⟨id, fun h => by rw [hq] at h; exact (Nat.le_succ _).trans h, id, fun _ h => by simp [h, Codec.atReset] at hq⟩
    refine (Move.queues _ hc).moves.trans ?_
    rcases storeFrame_cases f.payload { s with codec := { s.codec with rxq := q } } with ⟨-, v, e⟩ | ⟨-, l, e⟩ <;> rw [e]
    · exact (Move.record _ v _ _ _ _ _ _).moves
    · exact (Move.record _ _ l _ _ _ _ _).moves

theorem codecReset_move (s : State) : Move s { s with codec := .atReset } :=
  .queues _ ⟨fun _ => Nat.zero_le _, fun _ => Nat.zero_le _, fun _ => Nat.zero_le _, fun _ _ => rfl⟩

/-! ## The decoder (R208 to R212)

Between the bytes of `rxbuf` and the end of the scan the buffer may be longer than R212's bound, so the moves of the scan are
followed with the buffer held at a fixed value, and the buffer takes its last value in one move at the end. -/

/-- The state with this receive buffer. -/
def setRxbuf (b : List Byte) (s : State) : State := { s with codec := { s.codec with rxbuf := b } }

theorem acceptFrame_moves (b : List Byte) (f : Frame) {s : State} (hl : s.link.state = .up) :
    Moves (setRxbuf b s) (setRxbuf b (acceptFrame f s)) := by
  have hcount : Moves (setRxbuf b s) (setRxbuf b { s with cnt := { s.cnt with rxOk := s.cnt.rxOk + 1#32 } }) :=
    (Move.record _ _ _ _ _ _ _ _).moves
  rcases acceptFrame_cases f s with ⟨-, e⟩ | ⟨hfull, e⟩ <;> rw [e]
  · exact hcount.tail (.report .rxFifoOverflow 0#4 rfl)
  · refine hcount.tail (.queues _ ⟨id, fun h => ?_, id, fun h => absurd (hl.symm.trans h) nofun⟩)
    simp only [setRxbuf, List.length_append, List.length_singleton] at h ⊢
    omega

theorem discard_moves (b : List Byte) (k : Nat) (s : State) : Moves (setRxbuf b s) (setRxbuf b (discard k s)) :=
  (Move.record _ _ _ _ _ _ _ _).moves

/-- A rejection of the scanner: a report, a count, and one byte dropped (R209). -/
theorem reject_moves (b : List Byte) {e : ErrKind} (cnt : Counters) {s : State} (h : mayReport s.par.role 0#4 e = true) :
    Moves (setRxbuf b s) (setRxbuf b (discard 1 { raiseError e 0#4 s with cnt := cnt })) :=
  ((raiseError_moves (setRxbuf b s) h).tail (.record cnt _ _ _ _ _ _ _)).trans
    (discard_moves b 1 { raiseError e 0#4 s with cnt := cnt })

theorem scanIter_moves (b : List Byte) {s : State} (hl : s.link.state = .up) :
    Moves (setRxbuf b s) (setRxbuf b (scanIter s).1) := by
  refine (discard_moves b (searchDrop s.codec.rxbuf) s).trans ?_
  unfold scanIter
  have hl' : (discard (searchDrop s.codec.rxbuf) s).link.state = .up := hl
  generalize discard (searchDrop s.codec.rxbuf) s = t at hl' ⊢
  dsimp only
  split
  · exact .refl
  · split
    · exact .refl
    · exact reject_moves b _ rfl
    · exact reject_moves b _ rfl
    · exact reject_moves b _ rfl
    · exact acceptFrame_moves b _ hl'

theorem scanIter_link (s : State) : (scanIter s).1.link = s.link := by
  obtain ⟨_, _, _, h⟩ := scanIter_frame s
  rw [h]

theorem scanIter_par (s : State) : (scanIter s).1.par = s.par := by
  obtain ⟨_, _, _, h⟩ := scanIter_frame s
  rw [h]

theorem scanLoop_moves (b : List Byte) (n : Nat) {s : State} (hl : s.link.state = .up) :
    Moves (setRxbuf b s) (setRxbuf b (scanLoop n s)) := by
  induction n generalizing s with
  | zero => exact .refl
  | succ n ih =>
    rw [scanLoop]
    split
    · exact (scanIter_moves b hl).trans (ih (by rwa [scanIter_link]))
    · exact scanIter_moves b hl

/-! What the scan leaves in the buffer (R212). -/

theorem length_drop_searchDrop {buf : List Byte} (h : findStart buf = none) : (buf.drop (searchDrop buf)).length ≤ 1 := by
  unfold searchDrop
  rw [h, List.length_drop]
  dsimp only
  split <;> omega

theorem length_of_judge_wait {r : Role} {cw : SumWidth} {buf : List Byte} (h : judge r cw buf = .wait) :
    buf.length ≤ rxBufBound r := by
  unfold judge at h
  split at h
  · rename_i a b id hi lo body
    dsimp only at h
    split_ifs at h with hid hlen hwait
    have hcw : cw.bytes ≤ 2 := by cases cw <;> decide
    simp only [List.length_cons, rxBufBound]
    omega
  · rename_i hshort
    rcases buf with _ | ⟨a, _ | ⟨b, _ | ⟨id, _ | ⟨hi, _ | ⟨lo, body⟩⟩⟩⟩⟩
    case cons.cons.cons.cons.cons => exact absurd rfl (hshort a b id hi lo body)
    all_goals simp only [List.length_cons, List.length_nil, rxBufBound]; omega

/-- When the scan stops, what is left is shorter than a frame (R212). -/
theorem scanIter_stops {s : State} (h : (scanIter s).2 = false) :
    (scanIter s).1.codec.rxbuf.length ≤ rxBufBound s.par.role := by
  unfold scanIter at h ⊢
  dsimp only at h ⊢
  split at h
  · rename_i hnone
    rw [if_pos hnone]
    exact (length_drop_searchDrop (Option.isNone_iff_eq_none.mp hnone)).trans (by simp only [rxBufBound]; omega)
  · rename_i hsome
    rw [if_neg hsome]
    split at h
    · rename_i hwait
      exact length_of_judge_wait hwait
    all_goals cases h

/-- The loop's bound is not reached, so its end is a stop of the scan (R209, R212). -/
theorem scanLoop_rxbuf {n : Nat} {s : State} (h : s.codec.rxbuf.length < n) :
    (scanLoop n s).codec.rxbuf.length ≤ rxBufBound s.par.role := by
  induction n generalizing s with
  | zero => omega
  | succ n ih =>
    rw [scanLoop]
    split
    · rename_i hgo
      have hshort := scanIter_shorter s hgo
      have hend := ih (s := (scanIter s).1) (by omega)
      rwa [scanIter_par] at hend
    · rename_i hstop
      exact scanIter_stops (Bool.not_eq_true _ ▸ hstop)

theorem deliver_moves (b : Byte) (s : State) : Moves s (deliver b s) := by
  unfold deliver
  split
  · rename_i hl
    set s' : State := { s with codec := { s.codec with rxbuf := s.codec.rxbuf ++ [b] } } with hs'
    have hscan : Moves s (setRxbuf s.codec.rxbuf (decodeRx s')) := scanLoop_moves s.codec.rxbuf _ (s := s') hl
    have hrx : (decodeRx s').codec.rxbuf.length ≤ rxBufBound s.par.role := scanLoop_rxbuf (Nat.lt_succ_self _)
    obtain ⟨cd, cn, ct, hframe⟩ := scanLoop_frame (s'.codec.rxbuf.length + 1) s'
    have hpar : (decodeRx s').par = s.par := by rw [decodeRx, hframe]
    have hlink : (decodeRx s').link.state = .up := by rw [decodeRx, hframe]; exact hl
    exact hscan.tail (.queues _ ⟨id, id, fun _ => hpar ▸ hrx, fun hd => absurd (hlink.symm.trans hd) nofun⟩)
  · exact .refl

theorem deliverAll_moves (bs : List Byte) (s : State) : Moves s (deliverAll bs s) := by
  induction bs generalizing s with
  | nil => exact .refl
  | cons b bs ih => exact (deliver_moves b s).trans (ih _)

/-! ## The UART (R233, R234) -/

theorem txShift_inRange {u : UartTx} (h : u.inRange = true) : (txShift u).inRange = true := by
  unfold txShift
  cases hb : u.busy with
  | false => simp [UartTx.inRange]
  | true =>
    simp only [UartTx.inRange, hb, Bool.not_true, Bool.false_or, Bool.and_eq_true, decide_eq_true_eq] at h
    obtain ⟨⟨hidx, hcnt⟩, hdiv⟩ := h
    by_cases hend : u.cnt + 1 = u.div
    · by_cases hstop : u.idx + 1 = 10
      · simp [UartTx.inRange, hend, hstop]
      · simp only [UartTx.inRange, if_true, hend]
        simp
        omega
    · simp only [UartTx.inRange, if_true, hend, if_false]
      simp
      omega

theorem txShift_idle {u : UartTx} (h : u.busy = false) : (txShift u).busy = false := by simp [txShift, h]

theorem txShift_moves (s : State) : Moves s { s with utx := txShift s.utx } :=
  (Move.transmitter _ (fun _ => txShift_inRange) fun _ => txShift_idle).moves

theorem txLoad_moves (s : State) : Moves s (txLoad s) := by
  rcases txLoad_cases s with ⟨b, q, hq, -, hl, e⟩ | ⟨-, e⟩
  · rw [e]
    have hup : ¬ s.link.state = .down := fun h => absurd (hl.symm.trans h) nofun
    have hc : QueueChange s { s.codec with txq := q } :=
      ⟨fun h => by rw [hq] at h; exact (Nat.le_succ _).trans h, id, id, fun h => absurd h hup⟩
    refine (Move.queues _ hc).moves.tail (.transmitter _ (fun hbaud _ => ?_) fun h => absurd h hup)
    have hbaud : 2 ≤ s.baud := hbaud
    simp [UartTx.inRange]
    omega
  · rw [e]

theorem txCycle_moves (s : State) : Moves s (txCycle s) := (txLoad_moves s).trans (txShift_moves _)

/-- A BUSY cycle before the stop-bit sample counts on; the stop-bit sample ends the byte (R234). -/
theorem rxBusyNext_inRange {u : UartRx} (hb : u.state = .busy) (h : u.inRange = true) :
    (rxBusyNext (sampleBit u.t u.div) u).inRange = true := by
  simp only [UartRx.inRange, hb, bne_self_eq_false, Bool.false_or, Bool.and_eq_true, decide_eq_true_eq] at h
  obtain ⟨⟨ht1, ht9⟩, hdiv⟩ := h
  by_cases hstop : u.t = 9 * u.div + u.div / 2
  · rw [hstop, sampleBit_at u.div 9 (by omega) le_rfl]
    simp only [rxBusyNext, UartRx.inRange]
    cases u.sync2 <;> rfl
  · have hnext : ∀ v : UartRx, v.t = u.t + 1 → v.div = u.div → v.inRange = true := fun v hvt hvd => by
      simp only [UartRx.inRange, hvt, hvd]
      simp
      omega
    unfold rxBusyNext
    dsimp only
    split
    · exact hnext _ rfl rfl
    · split
      · rfl
      · exact hnext _ rfl rfl
    · cases u.sync2 <;> rfl
    · exact hnext _ rfl rfl

theorem framingError_moves (s : State) : Moves s (framingError s) :=
  (raiseError_moves s rfl).tail (.record _ _ _ _ _ _ _ _)

theorem rxBusy_moves {s : State} (hl : s.link.state = .up) (hb : s.urx.state = .busy) : Moves s (rxBusy s) := by
  have hnext : Moves s { s with urx := rxBusyNext (sampleBit s.urx.t s.urx.div) s.urx } :=
    (Move.receiver _ hl fun _ => rxBusyNext_inRange hb).moves
  rcases rxBusy_cases s with ⟨hk, -, e⟩ | ⟨hk, -, e⟩ | ⟨-, e⟩ <;> rw [e]
  · exact (hk ▸ hnext).trans (deliver_moves _ _)
  · exact (hk ▸ hnext).trans (framingError_moves _)
  · exact hnext

theorem rxCycle_moves (s : State) : Moves s (rxCycle s) := by
  cases hl : s.link.state with
  | down => rw [rxCycle_down s hl]
  | up =>
    rw [rxCycle_up s hl]
    cases hs : s.urx.state with
    | idle =>
      dsimp only
      split
      · exact .refl
      · refine (Move.receiver _ hl fun hbaud _ => ?_).moves
        have hbaud : 2 ≤ s.baud := hbaud
        simp [UartRx.inRange]
        omega
    | busy => exact rxBusy_moves hl hs
    | waitHigh =>
      dsimp only
      split
      · exact (Move.receiver _ hl fun _ _ => rfl).moves
      · exact .refl

/-! ## The link (R241 to R249) -/

theorem goDown_moves (s : State) : Moves s (goDown s) := (Move.linkDown.moves).tail (.report .linkIoFault 0#4 rfl)

theorem attempt_moves (s : State) : Moves s (attempt s) := by
  unfold attempt
  split
  · exact Move.linkRetried.moves
  · exact Move.linkUp.moves

theorem linkCycle_moves (s : State) : Moves s (linkCycle s) := by
  have hdown : Moves s (if s.linkUp && s.pins.ioFault then goDown s else s) := by
    split
    · exact goDown_moves s
    · exact .refl
  rw [linkCycle_eq]
  generalize (if s.linkUp && s.pins.ioFault then goDown s else s) = t at hdown ⊢
  split
  · exact hdown.trans (attempt_moves t)
  · exact hdown

theorem heartbeat_moves (s : State) : Moves s (heartbeat s) := by
  unfold heartbeat
  dsimp only
  split
  · split
    · exact (enqueue_moves _ s).tail (.sent _ _)
    · exact enqueue_moves _ s
  · exact .refl

theorem linkStep_moves {s : State} (hr : s.par.role = .host) : Moves s (linkStep s) := by
  have hreport : Moves s (reportBadInput s) := by
    unfold reportBadInput
    split
    · exact raiseError_moves s (by rw [hr]; rfl)
    · exact .refl
  exact setResult_moves ((hreport.trans (heartbeat_moves _)).trans (popFrame_moves _)) _

/-! ## The encoder (R141 to R146) -/

theorem takeEdge_win (now : Word) (d : TickDraw) (e : Enc) : (takeEdge now d e).win = e.win := by
  cases d <;> rfl

theorem edgeDetect_moves (c : Chan) (s : State) : Moves s (edgeDetect c s) := by
  rcases edgeDetect_cases c s with ⟨-, e⟩ | ⟨-, -, e⟩ | ⟨-, -, e⟩
  · rw [e]
  · rw [e]
    exact (Move.encoder c _ fun h => by rwa [takeEdge_win]).moves.tail (.record _ _ _ _ _ _ _ _)
  · rw [e]
    exact (Move.encoder c _ fun h => by rwa [takeEdge_win]).moves

theorem encUpdate_moves (c : Chan) (s : State) : Moves s (encUpdate c s) := by
  rcases encUpdate_cases c s with ⟨-, e⟩ | ⟨-, e⟩
  · rw [e]
    exact (Move.encoder c _ fun h => (windowEvict_length _ _ _).trans (windowAppend_length _ _ h)).moves
  · rw [e]

theorem encReset_moves (c : Chan) (s : State) : Moves s (encReset c s) :=
  (Move.encoder c _ fun _ => Nat.zero_le _).moves

/-! ## The control law (R161 to R170) -/

/-- The law's registers are cleared (R170), whatever NUM_FAULT becomes. -/
theorem clearedPid_move (c : Chan) (p : Pid) (fault : Bool) (s : State) :
    Move s (s.setPid c { resetPid p with numFault := fault }) :=
  .law c _ (by decide : isnan fZero = false) (by decide : isnan fZero = false) fun _ => inDuty_fZero

theorem pidReset_moves (c : Chan) (s : State) : Moves s (pidReset c s) := (clearedPid_move c (s.ch c).pid _ s).moves

theorem numFault_moves (c : Chan) {s : State} (hr : s.par.role = .controller) : Moves s (numFault c s) :=
  (clearedPid_move c _ true s).moves.tail (.report _ _ (by simp [mayReport, hr]))

theorem pidEval_moves (c : Chan) (target current dt : F32) {s : State} (hr : s.par.role = .controller) :
    Moves s (pidEval c target current dt s) := by
  rcases pidEval_cases c target current dt s with ⟨-, e⟩ | ⟨hok, sat, -, e⟩ <;> rw [e]
  · exact numFault_moves c hr
  · obtain ⟨hi, he⟩ := pidStored_not_nan hok
    have hlaw : Moves s (s.setPid c (pidStored (s.ch c).cfg (s.ch c).pid target current dt)) :=
      (Move.law c _ hi he fun hg => inDuty_fclamp hg hok).moves
    split
    · exact hlaw.tail (.channelBit _ (by simpa using hr) (by cases c <;> decide))
    · exact hlaw

/-! ## The motor loop (R180 to R191) -/

theorem zeroOutput_moves (c : Chan) (s : State) : Moves s (zeroOutput c s) :=
  (Move.motor c _ fun h _ => zeroMotor_bounded h).moves

theorem zeroTarget_moves (c : Chan) (s : State) : Moves s (s.setMot c { (s.ch c).mot with target := fZero }) :=
  (Move.motor c _ fun h _ => bounded_zeroTarget h).moves

/-- A change of the motor loop's fields that no bound speaks of. -/
theorem motorNote_moves (c : Chan) (s : State) (neg brake : Bool) (dt stepMs : Word) :
    Moves s (s.setMot c { (s.ch c).mot with dirNeg := neg, brake := brake, lastDtMs := dt, lastStepMs := stepMs }) :=
  (Move.motor c _ fun h _ => by rwa [motorBounded_iff] at h ⊢).moves

theorem stopChannel_moves (c : Chan) (s : State) : Moves s (stopChannel c s) := by
  have hstop : Moves s (pidReset c (zeroOutput c (s.setMot c { (s.ch c).mot with target := fZero }))) :=
    ((zeroTarget_moves c s).trans (zeroOutput_moves c _)).trans (pidReset_moves c _)
  unfold stopChannel
  dsimp only
  split
  · exact hstop.trans (encReset_moves c _)
  · exact hstop

theorem armChannel_moves (c : Chan) (s : State) : Moves s (armChannel c s) :=
  ((pidReset_moves c s).trans (encReset_moves c _)).trans (motorNote_moves c _ _ _ _ _)

theorem driveChannel_moves (c : Chan) {rpm : F32} (hf : finite rpm = true) (s : State) :
    Moves s (driveChannel c rpm s) := by
  have harm : Moves s (if (s.ch c).mot.active then s else armChannel c s) := by
    split
    · exact .refl
    · exact armChannel_moves c s
  exact harm.tail (.motor c _ fun h _ => bounded_driven h hf _)

theorem setTarget_moves (c : Chan) {rpm : F32} (hf : finite rpm = true) (s : State) : Moves s (setTarget c rpm s) := by
  unfold setTarget
  split
  · exact stopChannel_moves c s
  · exact driveChannel_moves c hf s

theorem stepFault_moves (c : Chan) (s : State) : Moves s (stepFault c s) :=
  ((zeroTarget_moves c s).trans (zeroOutput_moves c _)).trans (encReset_moves c _)

/-- STEP takes the law's last output as the next duty (R183). -/
theorem loadDuty_moves (c : Chan) (s : State) :
    Moves s (s.setMot c { (s.ch c).mot with pendDuty := (s.ch c).pid.lastOut }) :=
  (Move.motor c _ fun h hd => bounded_pendDuty h hd).moves

theorem stepExecuted_moves (c : Chan) {s : State} (hr : s.par.role = .controller) : Moves s (stepExecuted c s) := by
  have hu := encUpdate_moves c s
  have hru : (encUpdate c s).par.role = .controller := by rw [hu.par, hr]
  unfold stepExecuted
  dsimp only
  generalize s.elapsed (s.ch c).mot.lastStepMs = el
  generalize hm : ((encUpdate c s).ch c).mot.target = target
  generalize projectRpm ((encUpdate c s).ch c).mot ((encUpdate c s).ch c).enc.rpm = current
  have hv := hu.trans (pidEval_moves c target current (stepDt el) hru)
  generalize pidEval c target current (stepDt el) (encUpdate c s) = v at hv ⊢
  have ht : Moves s (v.setMot c { (v.ch c).mot with lastStepMs := s.now, lastDtMs := el }) :=
    hv.trans (motorNote_moves c v _ _ _ _)
  split
  · exact setResult_moves (ht.trans (stepFault_moves c _)) _
  · have hload := loadDuty_moves c (v.setMot c { (v.ch c).mot with lastStepMs := s.now, lastDtMs := el })
    rw [State.setMot_ch_pid] at hload
    exact setResult_moves (ht.trans hload) _

theorem stepChannel_moves (c : Chan) {s : State} (hr : s.par.role = .controller) : Moves s (stepChannel c s) := by
  unfold stepChannel
  split
  · exact stepExecuted_moves c hr
  · exact setResult_moves .refl _

theorem brakeChannel_moves (c : Chan) (s : State) : Moves s (brakeChannel c s) :=
  (stopChannel_moves c s).trans (motorNote_moves c _ _ _ _ _)

/-! ## The instructions -/

/-- Every instruction but SOFT_RESET is a chain of moves. -/
theorem exec_moves {i : Instr} (hi : i ≠ .softReset) {s t : State} (h : exec i s = .next t) : Moves s t := by
  cases i <;> cases h
  case nop => exact .refl
  case setTarget ch =>
    exact onChannel_moves fun c _ => needFinite_moves (chanField_cases c) fun hf => setTarget_moves c hf s
  case step ch => exact onChannel_moves fun c hr => stepChannel_moves c hr
  case brake ch => exact onChannel_moves fun c _ => brakeChannel_moves c s
  case pidReset ch => exact onChannel_moves fun c _ => pidReset_moves c s
  case pidCompute ch =>
    exact onChannel_moves fun c hr => needFinite_moves (chanField_cases c) fun _ =>
      needFinite_moves (chanField_cases c) fun _ => needFinite_moves (chanField_cases c) fun _ =>
        needRange_moves (chanField_cases c) (setResult_moves (pidEval_moves c _ _ _ hr) _)
  case encUpdate ch => exact onChannel_moves fun c _ => setResult_moves (encUpdate_moves c s) _
  case encReset ch => exact onChannel_moves fun c _ => encReset_moves c s
  case txCmdFrame =>
    exact inRole_moves fun _ => needFinite_moves (.inl rfl) fun _ => needFinite_moves (.inl rfl) fun _ =>
      setResult_moves (enqueue_moves _ s) _
  case txTlmFrame => exact inRole_moves fun _ => setResult_moves (enqueue_moves _ s) _
  case rxPop => exact setResult_moves (popFrame_moves s) _
  case codecReset => exact (codecReset_move s).moves
  case linkStep => exact inRole_moves fun hr => linkStep_moves hr
  case softReset => exact absurd rfl hi
  case velCmd p ck => exact deliverAll_moves _ s
  case telemetry p ck => exact deliverAll_moves _ s

/-! ## The phases (R80) -/

theorem setPhase_moves {s t : State} (h : Moves s t) (p : Phase) : Moves s { t with phase := p } :=
  h.tail (.record _ _ _ _ _ _ _ _)

theorem encPhase_moves (s : State) : Moves s (encPhase s) := by
  refine setPhase_moves ?_ .rx
  split
  · exact (edgeDetect_moves .c0 s).trans (edgeDetect_moves .c1 _)
  · exact .refl

theorem pwmTick_moves (c : Chan) (s : State) : Moves s (s.setMot c (pwmTick s.ctl.pwmTop (s.ch c).mot)) :=
  (Move.motor c _ fun h _ => pwmTick_bounded h).moves

theorem pwmPhase_moves (s : State) : Moves s (pwmPhase s) := by
  refine setPhase_moves ?_ .bus
  split
  · exact (pwmTick_moves .c0 s).trans (pwmTick_moves .c1 _)
  · exact .refl

theorem sampleStale_moves (c : Chan) {s : State} (hr : s.par.role = .controller) : Moves s (sampleStale c s) := by
  rcases sampleStale_cases c s with ⟨-, e⟩ | ⟨-, e⟩
  · rw [e]
    exact (Move.channelBit _ hr (by cases c <;> decide)).moves
  · rw [e]

theorem stalePhase_moves (s : State) : Moves s (stalePhase s) := by
  refine setPhase_moves ?_ .inputs
  split
  · rename_i hr
    have h0 := sampleStale_moves .c0 hr
    exact h0.trans (sampleStale_moves .c1 (by rw [h0.par, hr]))
  · exact .refl

theorem done_moves (s : State) : Moves s (done s) := (Move.record _ _ _ _ _ _ _ _).moves

/-! ## The step -/

/-- What one step does: it begins a cycle, counts a clock cycle, writes a register, runs SOFT_RESET, or is a chain of
moves. -/
inductive StepKind (s : State) : State → Prop
  | cycleBegins (hp : s.phase = .inputs) : StepKind s (inputsPhase s)
  | clockCounts (hp : s.phase = .time) : StepKind s (timePhase s)
  | registerWritten {addr v : Word} {r : Reg} (hb : onBus s (wr addr v)) (hr : regAt addr = some r) :
      StepKind s (writeReg r v (done s))
  | softReset {addr : Word} (hb : onBus s (wr addr 0x7F#32)) (ha : offset addr = 0x018) :
      StepKind s (softReset (done s))
  | moves {t : State} (hp : s.phase ≠ .inputs) (h : Moves s t) : StepKind s t

theorem rxPhase_moves {s t : State} (h : rxPhase s = .next t) : Moves s t := by
  unfold rxPhase at h
  split at h
  · cases h
    exact setPhase_moves (rxCycle_moves s) _
  · have htaken : ∀ bytes, Moves s { s with rxb := bytes } := fun _ => (Move.record _ _ _ _ _ _ _ _).moves
    split at h
    · rename_i i after hframe
      have hi : i ≠ .softReset := fun hi => nextFrame_ne_softReset s after (hi ▸ hframe)
      exact (htaken after).trans (exec_moves hi h)
    · cases h
      exact (htaken _).trans (deliver_moves _ _)

theorem busPhase_kind {s t : State} (hp : s.phase = .bus) (h : busPhase s = .next t) : StepKind s t := by
  have hp' : s.phase ≠ .inputs := by rw [hp]; nofun
  unfold busPhase at h
  split at h
  case h_1 => cases h; exact .moves hp' (done_moves s)
  case h_2 => cases h; exact .moves hp' ((done_moves s).tail (.record _ _ _ _ _ _ _ _))
  case h_3 r v hop =>
    obtain ⟨addr, hb, hr⟩ := busOp_eq_store hop
    cases h
    exact .registerWritten ⟨hp, hb⟩ hr
  case h_4 w hop =>
    obtain ⟨addr, hb, ha⟩ := busOp_eq_command hop
    unfold runCommand at h
    split at h
    · rename_i i hdec
      by_cases hi : i = .softReset
      · subst hi
        cases h
        rw [decodeCmd_softReset hdec] at hb
        exact .softReset ⟨hp, hb⟩ ha
      · exact .moves hp' ((done_moves s).trans (exec_moves hi h))
    · rename_i err _
      cases h
      refine .moves hp' ((done_moves s).trans (raiseError_moves _ ?_))
      cases err with
      | badChannel i => simp only [rejectKind]; split <;> rfl
      | _ => rfl

theorem step_kind {s t : State} (h : step s = .next t) : StepKind s t := by
  unfold step at h
  cases hp : s.phase <;> rw [hp] at h
  case rx => exact .moves (by rw [hp]; nofun) (rxPhase_moves h)
  case bus => exact busPhase_kind hp h
  all_goals cases h
  case inputs => exact .cycleBegins hp
  case time => exact .clockCounts hp
  case link => exact .moves (by rw [hp]; nofun) (setPhase_moves (linkCycle_moves s) _)
  case enc => exact .moves (by rw [hp]; nofun) (encPhase_moves s)
  case tx => exact .moves (by rw [hp]; nofun) (setPhase_moves (txCycle_moves s) _)
  case pwm => exact .moves (by rw [hp]; nofun) (pwmPhase_moves s)
  case stale => exact .moves (by rw [hp]; nofun) (stalePhase_moves s)

end Sys2Proof.Proofs
end

section
/-! Resets and register writes, the two kinds of step that are no chain of moves: what a reset leaves, and what the store of
a register keeps. -/

namespace Sys2Proof.Proofs

open Sys2Proof Sys2Proof.Machine Sys2Proof.Spec

/-! ## Resets (R280, R281) -/

/-- The registers and queues of `t` are those after a reset, and its clock is that of `s` or has just begun. -/
structure RegsReset (s t : State) : Prop where
  par : t.par = s.par
  clk : t.clk = s.clk ∨ t.clk.msCnt = 0
  ctl : t.ctl = .atReset
  hb : t.hb = .atReset
  codec : t.codec = .atReset
  utx : t.utx = .atReset
  urx : t.urx.state = .waitHigh
  cfg : t.ch0.cfg = .atReset ∧ t.ch1.cfg = .atReset
  pid : t.ch0.pid = .atReset ∧ t.ch1.pid = .atReset
  mot : ∃ now, t.ch0.mot = .atReset now ∧ t.ch1.mot = .atReset now
  win : t.ch0.enc.win = [] ∧ t.ch1.enc.win = []

theorem softReset_regsReset (s : State) : RegsReset s (softReset s) :=
  ⟨rfl, .inl rfl, rfl, rfl, rfl, rfl, rfl, ⟨rfl, rfl⟩, ⟨rfl, rfl⟩, ⟨_, rfl, rfl⟩, ⟨rfl, rfl⟩⟩

theorem powerOn_regsReset (par : Params) (pins : Pins) : RegsReset (State.powerOn par pins) (State.powerOn par pins) :=
  ⟨rfl, .inl rfl, rfl, rfl, rfl, rfl, rfl, ⟨rfl, rfl⟩, ⟨rfl, rfl⟩, ⟨_, rfl, rfl⟩, ⟨rfl, rfl⟩⟩

/-- A state as a clock cycle outside reset begins: the inputs taken and the synchronisers shifted. -/
def cycleBegun (s : State) : State :=
  { shiftSyncs s with
    env := s.env.tail, pins := s.nextIn.pins, bus := s.nextIn.bus, rxb := s.nextIn.rxb, phase := .time }

/-- A cycle begins in power-on reset, or right after it, with the reset values, and otherwise with its inputs. -/
theorem inputsPhase_kind (s : State) :
    ((s.nextIn.pins.rstN = false ∨ s.pins.rstN = false) ∧ RegsReset s (inputsPhase s) ∧
      (inputsPhase s).clk = { timeMs := 0#32, msCnt := 0, msTick := false }) ∨
    (s.nextIn.pins.rstN = true ∧ s.pins.rstN = true ∧ inputsPhase s = cycleBegun s) := by
  rcases inputsPhase_cases s with ⟨hn, e⟩ | ⟨-, hp, e⟩ | ⟨hn, hp, e⟩
  · refine .inl ⟨.inl hn, ?_, by rw [e]; rfl⟩
    rw [e]
    exact ⟨rfl, .inr rfl, rfl, rfl, rfl, rfl, rfl, ⟨rfl, rfl⟩, ⟨rfl, rfl⟩, ⟨_, rfl, rfl⟩, ⟨rfl, rfl⟩⟩
  · refine .inl ⟨.inr hp, ?_, by rw [e]; rfl⟩
    rw [e]
    exact ⟨rfl, .inr rfl, rfl, rfl, rfl, rfl, rfl, ⟨rfl, rfl⟩, ⟨rfl, rfl⟩, ⟨_, rfl, rfl⟩, ⟨rfl, rfl⟩⟩
  · exact .inr ⟨hn, hp, e⟩

/-! ## What the store of a register leaves (R122) -/

section
variable (r : Reg) (v : Word) (s : State)

@[simp] theorem storeReg_par : (storeReg r v s).par = s.par := by cases r <;> simp [storeReg, writePwmTop]
@[simp] theorem storeReg_clk : (storeReg r v s).clk = s.clk := by cases r <;> simp [storeReg, writePwmTop]
@[simp] theorem storeReg_cnt : (storeReg r v s).cnt = s.cnt := by cases r <;> simp [storeReg, writePwmTop]
@[simp] theorem storeReg_vel : (storeReg r v s).vel = s.vel := by cases r <;> simp [storeReg, writePwmTop]
@[simp] theorem storeReg_lat : (storeReg r v s).lat = s.lat := by cases r <;> simp [storeReg, writePwmTop]
@[simp] theorem storeReg_codec : (storeReg r v s).codec = s.codec := by cases r <;> simp [storeReg, writePwmTop]
@[simp] theorem storeReg_utx : (storeReg r v s).utx = s.utx := by cases r <;> simp [storeReg, writePwmTop]
@[simp] theorem storeReg_urx : (storeReg r v s).urx = s.urx := by cases r <;> simp [storeReg, writePwmTop]
@[simp] theorem storeReg_pins : (storeReg r v s).pins = s.pins := by cases r <;> simp [storeReg, writePwmTop]
@[simp] theorem storeReg_bus : (storeReg r v s).bus = s.bus := by cases r <;> simp [storeReg, writePwmTop]
@[simp] theorem storeReg_rxb : (storeReg r v s).rxb = s.rxb := by cases r <;> simp [storeReg, writePwmTop]
@[simp] theorem storeReg_env : (storeReg r v s).env = s.env := by cases r <;> simp [storeReg, writePwmTop]
@[simp] theorem storeReg_rdata : (storeReg r v s).rdata = s.rdata := by cases r <;> simp [storeReg, writePwmTop]
@[simp] theorem storeReg_phase : (storeReg r v s).phase = s.phase := by cases r <;> simp [storeReg, writePwmTop]
@[simp] theorem storeReg_freeCtr : (storeReg r v s).freeCtr = s.freeCtr := by cases r <;> simp [storeReg, writePwmTop]
@[simp] theorem storeReg_link_state : (storeReg r v s).link.state = s.link.state := by
  cases r <;> simp [storeReg, writePwmTop]
@[simp] theorem storeReg_link_sentSinceUp : (storeReg r v s).link.sentSinceUp = s.link.sentSinceUp := by
  cases r <;> simp [storeReg, writePwmTop]
@[simp] theorem storeReg_link_downSinceMs : (storeReg r v s).link.downSinceMs = s.link.downSinceMs := by
  cases r <;> simp [storeReg, writePwmTop]
@[simp] theorem storeReg_ctl_result : (storeReg r v s).ctl.result = s.ctl.result := by
  cases r <;> simp [storeReg, writePwmTop]

end

/-- STATUS is the one register whose write clears sticky bits (R26). -/
theorem storeReg_sticky {r : Reg} (hr : r ≠ .status) (v : Word) (s : State) :
    (storeReg r v s).ctl.sticky = s.ctl.sticky := by
  cases r with
  | status => exact absurd rfl hr
  | _ => simp [storeReg, writePwmTop]

/-- A write of PWM_TOP restarts both periods. -/
theorem storeReg_pwmTop_ch (v : Word) (s : State) (c : Chan) :
    (storeReg .pwmTop v s).ch c = { s.ch c with mot := pwmRestart (v.extractLsb' 0 16) (s.ch c).mot } := by
  cases c <;> rfl

/-- A write of a channel register changes that channel's configuration. -/
theorem storeReg_chan_ch (c : Chan) (q : ChReg) (v : Word) (s : State) (d : Chan) :
    (storeReg (.chan c q) v s).ch d =
      { s.ch d with cfg := if d = c then storeChReg q v (s.ch c).cfg else (s.ch d).cfg } := by
  cases c <;> cases d <;> rfl

/-- Any other write leaves the channels as they are. -/
theorem storeReg_ch {r : Reg} (hp : r ≠ .pwmTop) (hc : ∀ c q, r ≠ .chan c q) (v : Word) (s : State) (d : Chan) :
    (storeReg r v s).ch d = s.ch d := by
  cases r with
  | pwmTop => exact absurd rfl hp
  | chan c q => exact absurd rfl (hc c q)
  | _ => cases d <;> rfl

/-- A write leaves a channel's encoder and control law, and but for PWM_TOP its motor loop. -/
theorem storeReg_ch_state (r : Reg) (v : Word) (s : State) (d : Chan) :
    ((storeReg r v s).ch d).enc = (s.ch d).enc ∧ ((storeReg r v s).ch d).pid = (s.ch d).pid ∧
      (r ≠ .pwmTop → ((storeReg r v s).ch d).mot = (s.ch d).mot) := by
  cases r with
  | pwmTop => rw [storeReg_pwmTop_ch]; exact ⟨rfl, rfl, fun h => absurd rfl h⟩
  | chan c q => rw [storeReg_chan_ch]; exact ⟨rfl, rfl, fun _ => rfl⟩
  | _ => cases d <;> exact ⟨rfl, rfl, fun _ => rfl⟩

/-! ## What every step keeps -/

/-- A predicate that every kind of step keeps. -/
structure StepKeeps (I : State → Prop) : Prop where
  move : ∀ {s t}, Move s t → I s → I t
  reset : ∀ {s t}, RegsReset s t → I s → I t
  sync : ∀ {s}, I s → I (cycleBegun s)
  clock : ∀ {s}, I s → I (timePhase s)
  store : ∀ {s r v}, legalWrite r v s = true → I s → I (storeReg r v s)

/-- The one induction behind every invariant: a step keeps what its kinds of step keep. -/
theorem StepKeeps.step {I : State → Prop} (hI : StepKeeps I) {s t : State} (h : step s = .next t) (hs : I s) : I t := by
  have hmoves : ∀ {u}, Moves s u → I u := fun hu => hu.keep (fun _ _ => hI.move) hs
  cases step_kind h with
  | cycleBegins _ =>
    rcases inputsPhase_kind s with ⟨-, hr, -⟩ | ⟨-, -, e⟩
    · exact hI.reset hr hs
    · rw [e]
      exact hI.sync hs
  | clockCounts _ => exact hI.clock hs
  | @registerWritten addr v r _ _ =>
    have hd := hmoves (done_moves s)
    rcases writeReg_cases r v (done s) with ⟨-, e⟩ | ⟨-, -, e⟩ | ⟨-, hl, e⟩ <;> rw [e]
    · exact hd
    · exact hI.move (.report .cfgReject 0#4 rfl) hd
    · exact hI.store hl hd
  | softReset _ _ => exact hI.reset (softReset_regsReset _) (hmoves (done_moves s))
  | moves _ hm => exact hmoves hm

end Sys2Proof.Proofs
end

section
/-! The invariants of a good state (R25 to R61, R122 to R261), each by what every kind of step keeps, and the reset state. -/

namespace Sys2Proof.Proofs

open Sys2Proof Sys2Proof.Machine Sys2Proof.Spec

/-! ## Legal configuration (R33, R39, R40, R49 to R53) -/

theorem configLegal_iff (s : State) :
    s.configLegal = true ↔ (s.ch0.cfg.legal = true ∧ s.ch1.cfg.legal = true) ∧
      (legalLimit s.hb.vmax = true ∧ legalLimit s.hb.wmax = true ∧ legalLimit s.hb.eps = true) ∧
      2 ≤ s.ctl.baudDiv.toNat := by
  simp [State.configLegal, and_assoc]

theorem move_configLegal {s t : State} (h : Move s t) (hs : s.configLegal = true) : t.configLegal = true := by
  cases h with
  | encoder c e _ => cases c <;> exact hs
  | law c p _ _ _ => cases c <;> exact hs
  | motor c m _ => cases c <;> exact hs
  | _ => exact hs

theorem regsReset_configLegal {s t : State} (h : RegsReset s t) : t.configLegal = true := by
  obtain ⟨h0, h1⟩ := h.cfg
  rw [configLegal_iff, h0, h1, h.hb, h.ctl]
  decide

/-- A legal write keeps its channel's configuration legal: R122's conditions are those of the registers. -/
theorem storeChReg_legal {x : ChanCfg} {r : ChReg} {v : Word} (hw : legalChWrite x r v = true) (hx : x.legal = true) :
    (storeChReg r v x).legal = true := by
  simp only [ChanCfg.legal, Bool.and_eq_true] at hx
  cases r <;> simp_all [ChanCfg.legal, legalChWrite, storeChReg, fgt]

theorem storeReg_cfg_legal {r : Reg} {v : Word} {s : State} (hw : legalWrite r v s = true) (d : Chan)
    (hd : (s.ch d).cfg.legal = true) : ((storeReg r v s).ch d).cfg.legal = true := by
  cases r with
  | chan c q =>
    rw [storeReg_chan_ch]
    dsimp only
    split
    · rename_i hdc
      subst hdc
      exact storeChReg_legal hw hd
    · exact hd
  | pwmTop => rw [storeReg_pwmTop_ch]; exact hd
  | _ => cases d <;> exact hd

theorem storeReg_configLegal {r : Reg} {v : Word} {s : State} (hw : legalWrite r v s = true) (hs : s.configLegal = true) :
    (storeReg r v s).configLegal = true := by
  rw [configLegal_iff] at hs ⊢
  obtain ⟨⟨h0, h1⟩, ⟨hvmax, hwmax, heps⟩, hbaud⟩ := hs
  refine ⟨⟨storeReg_cfg_legal hw .c0 h0, storeReg_cfg_legal hw .c1 h1⟩, ?_⟩
  cases r with
  | baudDiv => exact ⟨⟨hvmax, hwmax, heps⟩, of_decide_eq_true hw⟩
  | vmax => exact ⟨⟨hw, hwmax, heps⟩, hbaud⟩
  | wmax => exact ⟨⟨hvmax, hw, heps⟩, hbaud⟩
  | eps => exact ⟨⟨hvmax, hwmax, hw⟩, hbaud⟩
  | chan c q => cases c <;> exact ⟨⟨hvmax, hwmax, heps⟩, hbaud⟩
  | _ => exact ⟨⟨hvmax, hwmax, heps⟩, hbaud⟩

theorem stepKeeps_configLegal : StepKeeps fun s => s.configLegal = true where
  move := move_configLegal
  reset h _ := regsReset_configLegal h
  sync hs := hs
  clock {s} hs := by unfold timePhase; split <;> exact hs
  store := storeReg_configLegal

/-- Settles O55: only writes and resets touch the configuration, and R122 accepts legal values only. -/
theorem configurationStaysLegal : Obligations.ConfigurationStaysLegal :=
  fun _ _ hs h => stepKeeps_configLegal.step h hs

/-! ## Bounded queues (R58, R60, R212, R241) -/

theorem queuesBounded_iff (s : State) :
    s.queuesBounded = true ↔
      (s.codec.txq.length ≤ Config.txCap ∧ s.codec.rxq.length ≤ Config.rxFrameCap ∧
        s.codec.rxbuf.length ≤ rxBufBound s.par.role) ∧
      (s.ch0.enc.win.length ≤ Config.winCap ∧ s.ch1.enc.win.length ≤ Config.winCap) ∧
      (s.link.state = .down → s.codec = .atReset ∧ s.utx.busy = false ∧ s.urx.state ≠ .busy) := by
  simp only [State.queuesBounded, Bool.and_eq_true, decide_eq_true_eq, Bool.or_eq_true, beq_iff_eq, Bool.not_eq_true',
    bne_iff_ne]
  cases s.link.state <;> simp [and_assoc]

theorem move_queuesBounded {s t : State} (h : Move s t) (hs : s.queuesBounded = true) : t.queuesBounded = true := by
  have hs' := hs
  rw [queuesBounded_iff] at hs'
  obtain ⟨⟨htx, hrx, hbuf⟩, ⟨hw0, hw1⟩, hdown⟩ := hs'
  cases h with
  | linkUp => exact (queuesBounded_iff _).mpr ⟨⟨htx, hrx, hbuf⟩, ⟨hw0, hw1⟩, nofun⟩
  | linkDown =>
    exact (queuesBounded_iff _).mpr
      ⟨⟨Nat.zero_le _, Nat.zero_le _, Nat.zero_le _⟩, ⟨hw0, hw1⟩, fun _ => ⟨rfl, rfl, nofun⟩⟩
  | queues cd hq =>
    refine (queuesBounded_iff _).mpr ⟨⟨hq.txq htx, hq.rxq hrx, hq.rxbuf hbuf⟩, ⟨hw0, hw1⟩, fun hl => ?_⟩
    obtain ⟨hcd, hbusy⟩ := hdown hl
    exact ⟨hq.down hl hcd, hbusy⟩
  | transmitter u _ hd =>
    refine (queuesBounded_iff _).mpr ⟨⟨htx, hrx, hbuf⟩, ⟨hw0, hw1⟩, fun hl => ?_⟩
    obtain ⟨hcd, hbusy, hst⟩ := hdown hl
    exact ⟨hcd, hd hl hbusy, hst⟩
  | receiver u hl _ =>
    exact (queuesBounded_iff _).mpr ⟨⟨htx, hrx, hbuf⟩, ⟨hw0, hw1⟩, fun hl' => absurd (hl.symm.trans hl') nofun⟩
  | encoder c e hwin =>
    cases c with
    | c0 => exact (queuesBounded_iff _).mpr ⟨⟨htx, hrx, hbuf⟩, ⟨hwin hw0, hw1⟩, hdown⟩
    | c1 => exact (queuesBounded_iff _).mpr ⟨⟨htx, hrx, hbuf⟩, ⟨hw0, hwin hw1⟩, hdown⟩
  | law c p _ _ _ => cases c <;> exact hs
  | motor c m _ => cases c <;> exact hs
  | _ => exact hs

theorem regsReset_queuesBounded {s t : State} (h : RegsReset s t) : t.queuesBounded = true := by
  obtain ⟨h0, h1⟩ := h.win
  rw [queuesBounded_iff, h0, h1, h.codec, h.utx, h.urx]
  exact ⟨⟨Nat.zero_le _, Nat.zero_le _, Nat.zero_le _⟩, ⟨Nat.zero_le _, Nat.zero_le _⟩, fun _ => ⟨rfl, rfl, nofun⟩⟩

theorem storeReg_queuesBounded {r : Reg} {v : Word} {s : State} (hs : s.queuesBounded = true) :
    (storeReg r v s).queuesBounded = true := by
  obtain ⟨h0, -⟩ := storeReg_ch_state r v s .c0
  obtain ⟨h1, -⟩ := storeReg_ch_state r v s .c1
  rw [queuesBounded_iff] at hs ⊢
  simp only [State.ch_c0, State.ch_c1] at h0 h1
  simpa [h0, h1] using hs

theorem stepKeeps_queuesBounded : StepKeeps fun s => s.queuesBounded = true where
  move := move_queuesBounded
  reset h _ := regsReset_queuesBounded h
  sync hs := hs
  clock {s} hs := by unfold timePhase; split <;> exact hs
  store _ := storeReg_queuesBounded

/-- Settles O56: the queue operations keep each bound, and the scan ends with less than a frame (`scanLoop_rxbuf`). -/
theorem queuesStayBounded : Obligations.QueuesStayBounded :=
  fun _ _ hs h => stepKeeps_queuesBounded.step h hs

/-! ## Actuators and the control law (R54, R167, R190, R191) -/

/-- What O57 keeps of one channel: the motor loop in range, the last duty in [0, 1], no NaN in the law. -/
def drives (top : BitVec 16) (x : Channel) : Prop :=
  x.mot.bounded top = true ∧ inDuty x.pid.lastOut = true ∧ isnan x.pid.integral = false ∧ isnan x.pid.lastErr = false

/-- The invariant of O57, with the legal configuration it needs. -/
def legalAndDriven (s : State) : Prop :=
  s.configLegal = true ∧ drives s.ctl.pwmTop s.ch0 ∧ drives s.ctl.pwmTop s.ch1

theorem drives_iff (s : State) :
    drives s.ctl.pwmTop s.ch0 ∧ drives s.ctl.pwmTop s.ch1 ↔ s.actuatorsBounded = true ∧ s.lawNumeric = true := by
  simp only [drives, State.actuatorsBounded, State.lawNumeric, Bool.and_eq_true, Bool.not_eq_true']
  constructor
  · rintro ⟨⟨hm0, hd0, hi0, he0⟩, hm1, hd1, hi1, he1⟩
    exact ⟨⟨⟨⟨hm0, hm1⟩, hd0⟩, hd1⟩, ⟨⟨⟨⟨hi0, he0⟩, not_isnan_of_inDuty hd0⟩, hi1⟩, he1⟩, not_isnan_of_inDuty hd1⟩
  · rintro ⟨⟨⟨⟨hm0, hm1⟩, hd0⟩, hd1⟩, ⟨⟨⟨⟨hi0, he0⟩, -⟩, hi1⟩, he1⟩, -⟩
    exact ⟨⟨hm0, hd0, hi0, he0⟩, hm1, hd1, hi1, he1⟩

theorem setCh_drives {top : BitVec 16} {s : State} {c : Chan} {x : Channel} (hs : ∀ d, drives top (s.ch d))
    (hx : drives top x) (d : Chan) : drives top ((s.setCh c x).ch d) := by
  by_cases h : d = c
  · rw [h, State.ch_setCh]
    exact hx
  · rw [State.ch_setCh_ne s x h]
    exact hs d

/-- A move keeps each channel driven: the cases that touch a channel are its encoder, its law and its motor loop. -/
theorem move_drives {s t : State} (h : Move s t) (hg : ∀ c, (s.ch c).cfg.legal = true)
    (hs : ∀ c, drives s.ctl.pwmTop (s.ch c)) (d : Chan) : drives t.ctl.pwmTop (t.ch d) := by
  cases h with
  | encoder c e _ => rw [State.setEnc_ctl]; exact setCh_drives (x := { s.ch c with enc := e }) hs (hs c) d
  | law c p hi he ho =>
    obtain ⟨hmot, -⟩ := hs c
    rw [State.setPid_ctl]
    exact setCh_drives (x := { s.ch c with pid := p }) hs ⟨hmot, ho (hg c), hi, he⟩ d
  | motor c m hm =>
    obtain ⟨hmot, hduty, hlaw⟩ := hs c
    rw [State.setMot_ctl]
    exact setCh_drives (x := { s.ch c with mot := m }) hs ⟨hm hmot hduty, hduty, hlaw⟩ d
  | _ => have hd := hs d; cases d <;> exact hd

theorem forall_chan {P : Chan → Prop} : (∀ c, P c) ↔ P .c0 ∧ P .c1 :=
  ⟨fun h => ⟨h .c0, h .c1⟩, fun ⟨h0, h1⟩ c => by cases c <;> assumption⟩

theorem legalAndDriven_iff (s : State) :
    legalAndDriven s ↔ s.configLegal = true ∧ ∀ c, drives s.ctl.pwmTop (s.ch c) := by
  rw [forall_chan]
  rfl

theorem cfg_legal {s : State} (h : s.configLegal = true) (c : Chan) : (s.ch c).cfg.legal = true := by
  obtain ⟨⟨h0, h1⟩, -⟩ := (configLegal_iff s).mp h
  cases c <;> assumption

theorem regsReset_drives {s t : State} (h : RegsReset s t) : drives t.ctl.pwmTop t.ch0 ∧ drives t.ctl.pwmTop t.ch1 := by
  obtain ⟨now, hm0, hm1⟩ := h.mot
  obtain ⟨hp0, hp1⟩ := h.pid
  have hmot : (Motor.atReset now).bounded Ctl.atReset.pwmTop = true :=
    (motorBounded_iff _ _).mpr ⟨(by decide : finite fZero = true), (by decide : fSign fZero = false), inDuty_fZero,
      Nat.zero_le _, Nat.zero_le _⟩
  simp only [drives, hm0, hm1, hp0, hp1, h.ctl]
  exact ⟨⟨hmot, by decide⟩, hmot, by decide⟩

/-- A store leaves the law and the motor loop, but for PWM_TOP, which restarts the periods under the new TOP. -/
theorem storeReg_drives {r : Reg} {v : Word} {s : State} (hs : ∀ c, drives s.ctl.pwmTop (s.ch c)) (d : Chan) :
    drives (storeReg r v s).ctl.pwmTop ((storeReg r v s).ch d) := by
  obtain ⟨hmot, hlaw⟩ := hs d
  cases r with
  | pwmTop => rw [storeReg_pwmTop_ch]; exact ⟨pwmRestart_bounded hmot _, hlaw⟩
  | chan c q =>
    rw [storeReg_chan_ch]
    simp only [storeReg, State.setCh_ctl]
    exact ⟨hmot, hlaw⟩
  | _ => have hd := hs d; cases d <;> exact hd

theorem stepKeeps_legalAndDriven : StepKeeps legalAndDriven where
  move {s t} h hs := by
    rw [legalAndDriven_iff] at hs ⊢
    exact ⟨move_configLegal h hs.1, move_drives h (cfg_legal hs.1) hs.2⟩
  reset h _ := ⟨regsReset_configLegal h, regsReset_drives h⟩
  sync hs := hs
  clock {s} hs := by unfold timePhase; split <;> exact hs
  store {s r v} hw hs := by
    rw [legalAndDriven_iff] at hs ⊢
    exact ⟨storeReg_configLegal hw hs.1, storeReg_drives hs.2⟩

/-- Settles O57: the output clamp of a legal configuration gives a duty (`inDuty_fclamp`), a NaN anywhere in the law shows in
the duty (`pidStored_not_nan`), and the PWM generator's compare value follows TOP (`pwmConv_le`). -/
theorem actuatorsStayBounded : Obligations.ActuatorsStayBounded := fun s t hg ha hl h => by
  obtain ⟨-, ht⟩ := stepKeeps_legalAndDriven.step h ⟨hg, (drives_iff s).mpr ⟨ha, hl⟩⟩
  exact (drives_iff t).mp ht

/-! ## The error report (R26, R28, R261) -/

theorem reportConsistent_iff (s : State) :
    s.reportConsistent = true ↔
      (s.ctl.errCode ∈ raisedCodes ∧ (s.ctl.errCh = 0#4 ∨
        s.ctl.errCh = 1#4 ∧ (s.ctl.errCode = 0x05#8 ∨ s.ctl.errCode = 0x06#8 ∨ s.ctl.errCode = 0x20#8))) ∧
      s.ctl.sticky &&& ~~~stickyMask = 0#20 ∧ s.ctl.sticky &&& foreignBits s.par.role = 0#20 := by
  simp [State.reportConsistent, and_assoc, or_assoc]

/-- Setting and clearing bits of a word that has none in a mask. -/
theorem or_and_eq_zero {w : Nat} {a b m : BitVec w} (ha : a &&& m = 0#w) (hb : b &&& m = 0#w) : (a ||| b) &&& m = 0#w := by
  refine BitVec.eq_of_getLsbD_eq fun i hi => ?_
  have hai := congrArg (·.getLsbD i) ha
  have hbi := congrArg (·.getLsbD i) hb
  simp only [BitVec.getLsbD_and, BitVec.getLsbD_zero] at hai hbi
  simp [Bool.and_or_distrib_right, hai, hbi]

theorem and_and_eq_zero {w : Nat} {a m : BitVec w} (ha : a &&& m = 0#w) (b : BitVec w) : a &&& b &&& m = 0#w := by
  rw [BitVec.and_assoc, BitVec.and_comm b, ← BitVec.and_assoc, ha, BitVec.zero_and]

/-- A condition a role may report has a code of R261, a channel only where the code has one, and a STATUS bit that is sticky
and the role's own. -/
theorem mayReport_consistent {e : ErrKind} {r : Role} {k : BitVec 4} (h : mayReport r k e = true) :
    (e.code ∈ raisedCodes ∧ (k = 0#4 ∨ k = 1#4 ∧ (e.code = 0x05#8 ∨ e.code = 0x06#8 ∨ e.code = 0x20#8))) ∧
      BitVec.ofNat 20 (2 ^ e.statusBit) &&& ~~~stickyMask = 0#20 ∧
      BitVec.ofNat 20 (2 ^ e.statusBit) &&& foreignBits r = 0#20 := by
  revert h
  cases e with
  | numFault c => cases c <;> revert k <;> cases r <;> decide
  | _ => revert k; cases r <;> decide

/-- Bits 14 to 17 are sticky and none of HOST's alone (R26). -/
theorem channelBit_consistent {i : Nat} (h : 14 ≤ i ∧ i < 18) :
    BitVec.ofNat 20 (2 ^ i) &&& ~~~stickyMask = 0#20 ∧ BitVec.ofNat 20 (2 ^ i) &&& foreignBits .controller = 0#20 := by
  obtain ⟨hlo, hhi⟩ := h
  interval_cases i <;> decide

theorem move_reportConsistent {s t : State} (h : Move s t) (hs : s.reportConsistent = true) :
    t.reportConsistent = true := by
  have hs' := hs
  rw [reportConsistent_iff] at hs'
  obtain ⟨hcode, hlive, hforeign⟩ := hs'
  cases h with
  | report e k he =>
    obtain ⟨hcode', hlive', hforeign'⟩ := mayReport_consistent he
    exact (reportConsistent_iff _).mpr ⟨hcode', or_and_eq_zero hlive hlive', or_and_eq_zero hforeign hforeign'⟩
  | channelBit i hr hi =>
    obtain ⟨hlive', hforeign'⟩ := channelBit_consistent hi
    exact (reportConsistent_iff _).mpr
      ⟨hcode, or_and_eq_zero hlive hlive', or_and_eq_zero hforeign (by simpa [hr] using hforeign')⟩
  | encoder c e _ => cases c <;> exact hs
  | law c p _ _ _ => cases c <;> exact hs
  | motor c m _ => cases c <;> exact hs
  | _ => exact hs

theorem regsReset_reportConsistent {s t : State} (h : RegsReset s t) : t.reportConsistent = true := by
  rw [reportConsistent_iff, h.ctl]
  exact ⟨by decide, by decide, BitVec.zero_and⟩

theorem storeReg_reportConsistent {r : Reg} {v : Word} {s : State} (hs : s.reportConsistent = true) :
    (storeReg r v s).reportConsistent = true := by
  cases r with
  | status =>
    rw [reportConsistent_iff] at hs ⊢
    obtain ⟨hcode, hlive, hforeign⟩ := hs
    exact ⟨hcode, and_and_eq_zero hlive _, and_and_eq_zero hforeign _⟩
  | errCode =>
    rw [reportConsistent_iff] at hs ⊢
    obtain ⟨-, hsticky⟩ := hs
    exact ⟨⟨(by decide : 0#8 ∈ raisedCodes), .inl rfl⟩, hsticky⟩
  | chan c q => cases c <;> exact hs
  | _ => exact hs

theorem stepKeeps_reportConsistent : StepKeeps fun s => s.reportConsistent = true where
  move := move_reportConsistent
  reset h _ := regsReset_reportConsistent h
  sync hs := hs
  clock {s} hs := by unfold timePhase; split <;> exact hs
  store _ := storeReg_reportConsistent

/-- Settles O58: every report is one its role may make (`mayReport_consistent`), and a write only clears. -/
theorem errorReportStaysConsistent : Obligations.ErrorReportStaysConsistent :=
  fun _ _ hs h => stepKeeps_reportConsistent.step h hs

/-! ## The counters of the UART and the clock (R25, R61) -/

theorem countersInRange_iff (s : State) :
    s.countersInRange = true ↔ s.utx.inRange = true ∧ s.urx.inRange = true ∧ 0 < s.par.msDiv ∧ s.clk.msCnt ≤ s.par.msDiv := by
  simp [State.countersInRange, and_assoc]

theorem move_countersInRange {s t : State} (h : Move s t) (hbaud : 2 ≤ s.ctl.baudDiv.toNat)
    (hs : s.countersInRange = true) : t.countersInRange = true := by
  have hs' := hs
  rw [countersInRange_iff] at hs'
  obtain ⟨htx, hrx, hclk⟩ := hs'
  cases h with
  | linkUp => exact (countersInRange_iff _).mpr ⟨htx, rfl, hclk⟩
  | linkDown => exact (countersInRange_iff _).mpr ⟨rfl, rfl, hclk⟩
  | transmitter u hc _ => exact (countersInRange_iff _).mpr ⟨hc hbaud htx, hrx, hclk⟩
  | receiver u _ hc => exact (countersInRange_iff _).mpr ⟨htx, hc hbaud hrx, hclk⟩
  | encoder c e _ => cases c <;> exact hs
  | law c p _ _ _ => cases c <;> exact hs
  | motor c m _ => cases c <;> exact hs
  | _ => exact hs

theorem regsReset_countersInRange {s t : State} (h : RegsReset s t) (hs : s.countersInRange = true) :
    t.countersInRange = true := by
  rw [countersInRange_iff] at hs ⊢
  obtain ⟨-, -, hdiv, hcnt⟩ := hs
  rw [h.utx, h.par]
  refine ⟨rfl, by simp [UartRx.inRange, h.urx], hdiv, ?_⟩
  rcases h.clk with hc | hc <;> rw [hc]
  · exact hcnt
  · exact Nat.zero_le _

theorem timePhase_countersInRange {s : State} (hs : s.countersInRange = true) : (timePhase s).countersInRange = true := by
  rw [countersInRange_iff] at hs
  obtain ⟨htx, hrx, hdiv, hcnt⟩ := hs
  unfold timePhase
  split
  · exact (countersInRange_iff _).mpr ⟨htx, hrx, hdiv, hdiv⟩
  · rename_i hlt
    exact (countersInRange_iff _).mpr ⟨htx, hrx, hdiv, Nat.lt_of_not_le hlt⟩

theorem stepKeeps_countersInRange : StepKeeps fun s => s.configLegal = true ∧ s.countersInRange = true where
  move {s t} h hs := by
    obtain ⟨-, -, hbaud⟩ := (configLegal_iff s).mp hs.1
    exact ⟨move_configLegal h hs.1, move_countersInRange h hbaud hs.2⟩
  reset h hs := ⟨regsReset_configLegal h, regsReset_countersInRange h hs.2⟩
  sync hs := hs
  clock hs := ⟨stepKeeps_configLegal.clock hs.1, timePhase_countersInRange hs.2⟩
  store {s r v} hw hs := ⟨storeReg_configLegal hw hs.1, by simpa [countersInRange_iff] using hs.2⟩

/-- Settles O59: inside a byte the counters stop at the stop bit (`txShift_inRange`, `rxBusyNext_inRange`), under the divisor
of a legal configuration. -/
theorem countersStayInRange : Obligations.CountersStayInRange :=
  fun _ _ hg hs h => (stepKeeps_countersInRange.step h ⟨hg, hs⟩).2

/-! ## The reset state (R280, R282) -/

theorem powerOn_good {par : Params} (pins : Pins) (hdiv : 0 < par.msDiv) : (State.powerOn par pins).good = true := by
  have h := powerOn_regsReset par pins
  obtain ⟨hact, hlaw⟩ := (drives_iff _).mp (regsReset_drives h)
  have hcnt : (State.powerOn par pins).countersInRange = true :=
    (countersInRange_iff _).mpr ⟨rfl, rfl, hdiv, Nat.zero_le _⟩
  simp [State.good, regsReset_configLegal h, regsReset_queuesBounded h, hact, regsReset_reportConsistent h, hlaw, hcnt]

/-- Settles O60: a state whose registers are reset meets every invariant. -/
theorem resetIsGood : Obligations.ResetIsGood :=
  ⟨powerOn_good _ (by decide), fun _ pins hdiv => powerOn_good pins hdiv⟩

end Sys2Proof.Proofs
end

section
/-! What changes over time: the sticky bits of STATUS (R26, R264) and the clock (R25, R280). -/

namespace Sys2Proof.Proofs

open Sys2Proof Sys2Proof.Machine Sys2Proof.Spec

/-! ## Sticky bits (R26, R265) -/

/-- A register write clears a sticky bit only where STATUS is written with that bit 1 (R265). -/
theorem writeReg_sticky {r : Reg} {v : Word} {s : State} {i : Nat} (hi : s.ctl.sticky.getLsbD i = true)
    (hf : (writeReg r v s).ctl.sticky.getLsbD i = false) : r = .status ∧ v.getLsbD i = true := by
  have hlt : i < 20 := BitVec.lt_of_getLsbD hi
  rcases writeReg_cases r v s with ⟨-, e⟩ | ⟨-, -, e⟩ | ⟨-, -, e⟩ <;> rw [e] at hf
  · simp [hi] at hf
  · simp [raiseError_sticky_mono _ _ _ _ hi] at hf
  · by_cases hr : r = .status
    · subst hr
      exact ⟨rfl, by simpa [storeReg, clearSticky, hi, hlt] using hf⟩
    · simp [storeReg_sticky hr, hi] at hf

/-- Settles O16: no move clears a sticky bit, and the steps that are none are the three causes and the clock's. -/
theorem stickyBitsStaySet : Obligations.StickyBitsStaySet := by
  intro s t i h hi hf
  have hkept : t.ctl.sticky.getLsbD i = true → False := fun ht => by simp [ht] at hf
  cases step_kind h with
  | cycleBegins hp =>
    rcases inputsPhase_kind s with ⟨hr, -⟩ | ⟨-, -, e⟩
    · exact .inl ⟨hp, hr⟩
    · exact (hkept (e ▸ hi)).elim
  | clockCounts _ => exact (hkept (by unfold timePhase; split <;> exact hi)).elim
  | @registerWritten addr v r hb hr =>
    obtain ⟨rfl, hv⟩ := writeReg_sticky (s := done s) hi hf
    exact .inr ⟨addr, v, hb, .inl ⟨regAt_eq_some_iff.mp hr, hv⟩⟩
  | @softReset addr hb ha => exact .inr ⟨addr, _, hb, .inr ⟨ha, rfl⟩⟩
  | moves _ hm => exact (hkept (hm.sticky hi)).elim

/-! ## The clock (R25, R280) -/

theorem timePhase_full {s : State} (h : s.par.msDiv ≤ s.clk.msCnt) :
    timePhase s = { s with clk := { timeMs := s.clk.timeMs + 1#32, msCnt := 1, msTick := true }, phase := .link } := by
  simp [timePhase, h]

theorem timePhase_counting {s : State} (h : s.clk.msCnt < s.par.msDiv) :
    timePhase s = { s with
      clk := { timeMs := s.clk.timeMs, msCnt := s.clk.msCnt + 1, msTick := false }, phase := .link } := by
  simp [timePhase, Nat.not_le.mpr h]

theorem step_time {s : State} (h : s.phase = .time) : step s = .next (timePhase s) := by simp [step, h]

theorem writeReg_clk (r : Reg) (v : Word) (s : State) : (writeReg r v s).clk = s.clk := by
  rcases writeReg_cases r v s with ⟨-, e⟩ | ⟨-, -, e⟩ | ⟨-, -, e⟩ <;> rw [e]
  · rfl
  · exact storeReg_clk r v s

theorem step_clk_inReset {s t : State} (h : step s = .next t) (hr : inReset s) :
    t.clk = { timeMs := 0#32, msCnt := 0, msTick := false } := by
  obtain ⟨hp, hrst⟩ := hr
  have ht : step s = .next (inputsPhase s) := by simp [step, hp]
  rw [h] at ht
  cases ht
  rcases inputsPhase_kind s with ⟨-, -, hclk⟩ | ⟨hn, hnow, -⟩
  · exact hclk
  · simp [hn, hnow] at hrst

theorem step_clk_kept {s t : State} (h : step s = .next t) (hr : ¬ inReset s) (hp : s.phase ≠ .time) : t.clk = s.clk := by
  cases step_kind h with
  | cycleBegins hi =>
    rcases inputsPhase_kind s with ⟨hrst, -⟩ | ⟨-, -, e⟩
    · exact absurd ⟨hi, hrst⟩ hr
    · rw [e]; rfl
  | clockCounts ht => exact absurd ht hp
  | registerWritten _ _ => exact writeReg_clk _ _ _
  | softReset _ _ => rfl
  | moves _ hm => exact hm.clk

/-- Settles O18: no move, write or SOFT_RESET touches the clock. -/
theorem onlyTheClockMovesTime : Obligations.OnlyTheClockMovesTime :=
  ⟨fun _ hp h => by rw [step_time hp, timePhase_full h], fun _ hp h => by rw [step_time hp, timePhase_counting h],
    fun _ _ h => ⟨step_clk_inReset h, step_clk_kept h⟩⟩

/-- After n + 1 cycles the clock has counted q full periods and the cycles since then, from 1 to P_MS_DIV of them. -/
theorem timePhase_iterate {s : State} (hdiv : 0 < s.par.msDiv) (h0 : s.clk.msCnt = 0) (n : Nat) :
    ∃ q cnt, n + 1 = q * s.par.msDiv + cnt ∧ 1 ≤ cnt ∧ cnt ≤ s.par.msDiv ∧ (timePhase^[n + 1] s).par = s.par ∧
      (timePhase^[n + 1] s).clk.msCnt = cnt ∧ (timePhase^[n + 1] s).clk.timeMs = s.clk.timeMs + BitVec.ofNat 32 q := by
  induction n with
  | zero =>
    refine ⟨0, 1, by omega, le_rfl, hdiv, ?_⟩
    rw [Function.iterate_one, timePhase_counting (h0 ▸ hdiv)]
    exact ⟨rfl, by simp [h0], by simp⟩
  | succ n ih =>
    obtain ⟨q, cnt, hn, hpos, hle, hpar, hcnt, htime⟩ := ih
    rw [Function.iterate_succ_apply']
    generalize timePhase^[n + 1] s = u at hpar hcnt htime ⊢
    by_cases hfull : cnt = s.par.msDiv
    · refine ⟨q + 1, 1, by rw [hn, hfull, Nat.succ_mul], le_rfl, hdiv, ?_⟩
      rw [timePhase_full (by rw [hpar, hcnt, hfull])]
      exact ⟨hpar, rfl, by simp [htime, BitVec.ofNat_add, BitVec.add_assoc]⟩
    · refine ⟨q, cnt + 1, by omega, by omega, by omega, ?_⟩
      rw [timePhase_counting (by rw [hpar, hcnt]; omega)]
      exact ⟨hpar, by rw [hcnt], htime⟩

/-- Settles O19, by the count of `timePhase_iterate`. -/
theorem timeAdvancesEveryMsDivCycles : Obligations.TimeAdvancesEveryMsDivCycles := by
  refine ⟨fun s hp => step_time hp, fun s n hdiv h0 => ?_⟩
  cases n with
  | zero => simp
  | succ n =>
    obtain ⟨q, cnt, hn, hpos, hle, -, -, htime⟩ := timePhase_iterate hdiv h0 n
    have hq : (n + 1 - 1) / s.par.msDiv = q :=
      Nat.div_eq_of_lt_le (by omega) (by rw [Nat.succ_mul]; omega)
    rw [htime, hq]

end Sys2Proof.Proofs
end

section
/-! The register file on the bus (R20 to R57, R120 to R122): which writes are ignored, what an accepted write reads back and
leaves alone, and what the writes of STATUS and ERR_CODE clear. -/

namespace Sys2Proof.Proofs

open Sys2Proof Sys2Proof.Machine Sys2Proof.Spec

/-! ## Instructions (R29, R120, R208) -/

theorem step_nextFrame {s : State} {i : Instr} {after : List Byte} (hp : s.phase = .rx)
    (h : s.nextFrame = some (i, after)) : step s = exec i { s with rxb := after } := by
  cases hb : s.rxb with
  | nil => simp [State.nextFrame, hb, decodeFrame, Except.toOption] at h
  | cons b rest => simp [step, hp, rxPhase, hb, h]

theorem onBus_withFetchWord (s : State) (w : Word) : onBus (s.withFetchWord 32 w.toNat) (wr 0x018#32 w) := by
  have hw : BitVec.ofNat 32 (w.toNat % 2 ^ 32) = w := by
    rw [Nat.mod_eq_of_lt w.isLt, BitVec.ofNat_toNat, BitVec.setWidth_eq]
  exact ⟨rfl, congrArg (fun x => some (cmdWrite x)) hw⟩

/-- Settles O4, by what the bus and the receiver do with a word or a frame that decodes. -/
theorem stepRunsTheDecodedInstruction : Obligations.StepRunsTheDecodedInstruction := by
  have hcmd : ∀ (s : State) (addr w : Word) (i : Instr), onBus s (wr addr w) → offset addr = 0x018 →
      decodeCmd w = .ok i → step s = exec i (done s) := fun s addr w i hb ha hdec => by
    rw [step_command hb ha, runCommand, hdec]
  refine ⟨hcmd, fun s i after hp hdec => step_nextFrame hp ?_, fun s w i hdec => ?_⟩
  · simp only [State.nextFrame, State.csum16Cmd, State.csum16Tlm, hdec, Except.toOption]
  · exact hcmd _ 0x018#32 w i (onBus_withFetchWord s w) (by decide) hdec

/-! ## Ignored writes (R22, R70, R122) -/

theorem storeChReg_readOnly {c : Chan} {q : ChReg} (h : rwMask (.chan c q) = none) (v : Word) (x : ChanCfg) :
    legalChWrite x q v = true ∧ storeChReg q v x = x := by
  cases q <;> simp_all [rwMask, legalChWrite, storeChReg]

/-- A register that is not RW, STATUS or ERR_CODE accepts every write and keeps its value (R122). -/
theorem storeReg_readOnly {r : Reg} (h : rwMask r = none) (hst : r ≠ .status) (herr : r ≠ .errCode) (v : Word)
    (s : State) : legalWrite r v s = true ∧ storeReg r v s = s := by
  cases r with
  | chan c q =>
    obtain ⟨hlegal, hstore⟩ := storeChReg_readOnly h v (s.ch c).cfg
    refine ⟨hlegal, ?_⟩
    rw [storeReg, hstore]
    exact State.setCh_ch s c
  | status => exact absurd rfl hst
  | errCode => exact absurd rfl herr
  | _ => simp_all [rwMask, legalWrite, storeReg]

theorem writeReg_ignored {r : Reg} {s : State} (h : ignoresWrites r s.par.role) (v : Word) : writeReg r v s = s := by
  rcases h with hp | ⟨hmask, hst, herr, -⟩
  · simp [writeReg, hp]
  · obtain ⟨hlegal, hstore⟩ := storeReg_readOnly hmask hst herr v s
    simp [writeReg, hlegal, hstore]

/-- Settles O9: such an access asks for nothing, or its write leaves the state (`writeReg_ignored`). -/
theorem ignoredWrites : Obligations.IgnoredWrites := by
  refine ⟨fun s hp hb => step_of_busOp_nothing hp (by rw [hb]; rfl), fun s addr v enables hb h => ?_⟩
  by_cases hen : enables = 0xF#4
  · subst hen
    rcases h with h | h | ⟨r, hr, hi⟩
    · exact absurd rfl h
    · exact step_of_busOp_nothing hb.1 (by simp [hb.2, busOp, h])
    · have hc : r ≠ .cmd := by
        rintro rfl
        simp [ignoresWrites, Reg.present] at hi
      rw [step_write hb hr hc, writeReg_ignored (s := done s) hi]
  · exact step_of_busOp_nothing hb.1 (by simp [hb.2, busOp, hen])

/-! ## STATUS and ERR_CODE (R26, R28, R265) -/

/-- Positions 3, 11 and 19 of STATUS are live, and the others of its 20 bits sticky (R26). -/
theorem getLsbD_status (s : State) {i : Nat} (hi : i < 20) :
    s.status.getLsbD i =
      if i = 3 ∨ i = 11 ∨ i = 19 then s.liveBits.getLsbD i else s.ctl.sticky.getLsbD i := by
  have hmask : ∀ j : Fin 20, stickyMask.getLsbD j = !decide (j.val = 3 ∨ j.val = 11 ∨ j.val = 19) := by decide
  rw [State.status, BitVec.getLsbD_or, BitVec.getLsbD_and, hmask ⟨i, hi⟩]
  split_ifs with hlive
  · simp [hlive]
  · have hnot : s.liveBits.getLsbD i = false := by
      simp only [not_or] at hlive
      simp [State.liveBits, hlive]
    simp [hlive, hnot]

theorem getLsbD_readReg_status (s : State) (i : Nat) :
    (readReg .status s).getLsbD i = s.status.getLsbD i := by
  simp only [readReg, BitVec.getLsbD_setWidth]
  by_cases hi : i < 32
  · simp [hi]
  · simp [hi, BitVec.getLsbD_of_ge s.status i (by omega)]

theorem writeReg_status (v : Word) (s : State) : writeReg .status v s = clearSticky v s := by
  simp [writeReg, Reg.present, legalWrite, storeReg]

theorem writeReg_errCode (v : Word) (s : State) : writeReg .errCode v s = clearErrCode s := by
  simp [writeReg, Reg.present, legalWrite, storeReg]

/-- A write of STATUS clears the sticky bits written as 1 and leaves the live ones (R83, R265). -/
theorem getLsbD_status_clearSticky (v : Word) (s : State) (i : Nat) :
    (clearSticky v s).status.getLsbD i =
      (s.status.getLsbD i && (i == 3 || i == 11 || i == 19 || !v.getLsbD i)) := by
  by_cases hi : i < 20
  · rw [getLsbD_status _ hi, getLsbD_status _ hi]
    by_cases hlive : i = 3 ∨ i = 11 ∨ i = 19
    · rw [if_pos hlive, if_pos hlive, show (clearSticky v s).liveBits = s.liveBits from rfl]
      simp [hlive, or_assoc]
    · rw [if_neg hlive, if_neg hlive]
      obtain ⟨h3, h11, h19⟩ : i ≠ 3 ∧ i ≠ 11 ∧ i ≠ 19 := by simpa [not_or] using hlive
      simp [clearSticky, hi, beq_false_of_ne h3, beq_false_of_ne h11, beq_false_of_ne h19]
  · rw [BitVec.getLsbD_of_ge _ i (Nat.le_of_not_lt hi), BitVec.getLsbD_of_ge _ i (Nat.le_of_not_lt hi), Bool.false_and]

/-- Settles O10, bit by bit for STATUS (`getLsbD_status_clearSticky`). -/
theorem clearingWrites : Obligations.ClearingWrites := by
  refine ⟨fun s addr v hb ha => ⟨clearSticky v (done s), ?_, rfl, fun i => ?_⟩,
    fun s addr v hb ha => ⟨clearErrCode (done s), ?_, rfl, ?_⟩⟩
  · rw [step_write (r := .status) hb (regAt_eq_some_iff.mpr ha) nofun, writeReg_status]
  · rw [getLsbD_readReg_status, getLsbD_readReg_status, getLsbD_status_clearSticky]
    rfl
  · rw [step_write (r := .errCode) hb (regAt_eq_some_iff.mpr ha) nofun, writeReg_errCode]
  · exact (by decide : place 32 0#8 0 ||| place 32 0#4 8 = 0#32)

end Sys2Proof.Proofs
end

section
/-! Accepted writes (R20, R24 to R53, R122): the value that reads back and the registers that read as before. -/

namespace Sys2Proof.Proofs

open Sys2Proof Sys2Proof.Machine Sys2Proof.Spec

/-! ## Which writes are accepted (R122) -/

theorem legalChWrite_eq_not_rejects (c : Chan) (q : ChReg) (v : Word) (s : State) :
    legalChWrite (s.ch c).cfg q v = !rejects (.chan c q) v s := by
  cases q <;> simp [legalChWrite, rejects, legalLimit, fZero, fOne, Bool.and_assoc, bne]

/-- The model's legality conditions are R122's table of rejections. -/
theorem legalWrite_eq_not_rejects (r : Reg) (v : Word) (s : State) : legalWrite r v s = !rejects r v s := by
  cases r with
  | chan c q => exact legalChWrite_eq_not_rejects c q v s
  | baudDiv =>
    simp only [legalWrite, rejects, BitVec.extractLsb'_toNat, Nat.shiftRight_zero]
    rw [← decide_not, decide_eq_decide]
    omega
  | _ => simp [legalWrite, rejects, legalLimit, fZero]

theorem step_acceptedWrite {s : State} {addr v m : Word} {r : Reg} (hb : onBus s (wr addr v)) (hr : regAt addr = some r)
    (hp : r.present s.par.role = true) (hm : rwMask r = some m) (hok : rejects r v s = false) :
    step s = .next (storeReg r v (done s)) := by
  have hc : r ≠ .cmd := by rintro rfl; cases hm
  have hl : legalWrite r v (done s) = true := by
    rw [legalWrite_eq_not_rejects, show rejects r v (done s) = rejects r v s from rfl, hok]
    rfl
  have hp' : r.present (done s).par.role = true := hp
  rw [step_write hb hr hc, writeReg, if_pos hp', if_pos hl]

/-! ## Reading back -/

/-- The low bits of a word, as a register that stores them reads. -/
theorem setWidth_extractLsb' (v : Word) (n : Nat) :
    (v.extractLsb' 0 n).setWidth 32 = v &&& BitVec.ofNat 32 (2 ^ n - 1) := by
  refine BitVec.eq_of_getLsbD_eq fun i hi => ?_
  simp only [BitVec.getLsbD_setWidth, BitVec.getLsbD_extractLsb', BitVec.getLsbD_and, BitVec.getLsbD_ofNat,
    Nat.testBit_two_pow_sub_one, hi, decide_true, Bool.true_and, Nat.zero_add]
  exact Bool.and_comm _ _

theorem and_allOnes_word (v : Word) : v &&& 0xFFFFFFFF#32 = v := BitVec.and_allOnes

/-- CFG stores bits 3:1, and bit 0 reads the role (R24). -/
theorem readReg_cfg_storeReg (v : Word) (s : State) :
    readReg .cfg (storeReg .cfg v s) = (v &&& 0xE#32) ||| (readReg .cfg s &&& 1#32) := by
  have hE : ∀ j : Fin 32, (0xE#32).getLsbD j = (decide (1 ≤ j.val) && decide (j.val < 4)) := by decide
  have h1 : ∀ j : Fin 32, (1#32).getLsbD j = decide (j.val = 0) := by decide
  refine BitVec.eq_of_getLsbD_eq fun i hi => ?_
  simp only [readReg, storeReg, BitVec.getLsbD_or, BitVec.getLsbD_and, getLsbD_flag, getLsbD_place,
    BitVec.getLsbD_extractLsb', hE ⟨i, hi⟩, h1 ⟨i, hi⟩, hi, decide_true, Bool.true_and]
  by_cases h0 : i = 0
  · simp [h0]
  · have hpos : 1 ≤ i := Nat.one_le_iff_ne_zero.mpr h0
    simp [h0, hpos, Nat.add_sub_of_le hpos, Bool.and_comm, show i - 1 < 3 ↔ i < 4 by omega]

theorem readReg_storeReg_chan (c : Chan) {q : ChReg} {m : Word} (hm : rwMask (.chan c q) = some m) (v : Word) (s : State) :
    readReg (.chan c q) (storeReg (.chan c q) v s) = v &&& m := by
  simp only [readReg, readChReg, storeReg, State.ch_setCh]
  cases q <;> cases hm
  case mcfg => exact setWidth_extractLsb' v 4
  all_goals exact (and_allOnes_word v).symm

theorem readReg_storeReg_self {r : Reg} {m : Word} (hm : rwMask r = some m) (v : Word) (s : State) :
    readReg r (storeReg r v s) = (v &&& m) ||| (if r = .cfg then readReg .cfg s &&& 1#32 else 0#32) := by
  by_cases hcfg : r = .cfg
  · subst hcfg
    cases hm
    exact readReg_cfg_storeReg v s
  · rw [if_neg hcfg, BitVec.or_zero]
    cases r with
    | chan c q => exact readReg_storeReg_chan c hm v s
    | cfg => exact absurd rfl hcfg
    | irqEn => cases hm; exact setWidth_extractLsb' v 20
    | pwmTop => cases hm; exact setWidth_extractLsb' v 16
    | baudDiv => cases hm; exact setWidth_extractLsb' v 16
    | tlmFlags => cases hm; exact setWidth_extractLsb' v 16
    | _ => cases hm <;> exact (and_allOnes_word v).symm

/-! ## The registers that read as before -/

/-- A channel register reads the channel and the clock (R48 to R57). -/
theorem readChReg_congr {s t : State} {c : Chan} (hch : t.ch c = s.ch c) (hclk : t.clk = s.clk) (q : ChReg) :
    readChReg c q t = readChReg c q s := by
  have hstale : t.stale c = s.stale c := by unfold State.stale State.elapsed; rw [hch, hclk]
  cases q <;> simp only [readChReg, State.mstat, State.dirPin, State.elapsed, hch, hclk, hstale]

/-- A global register does not read the channels. -/
theorem readReg_setCh {q : Reg} (hq : ∀ c k, q ≠ .chan c k) (s : State) (c : Chan) (x : Channel) :
    readReg q (s.setCh c x) = readReg q s := by
  cases q with
  | chan c k => exact absurd rfl (hq c k)
  | _ => cases c <;> rfl

/-- A write of a channel register shows in that register, and in MSTAT where R149 and R192 say so. -/
theorem readChReg_storeChReg {c : Chan} {q k : ChReg} (hk : k ≠ q) (ha : .chan c k ∉ alsoReads (.chan c q)) (v : Word)
    (s : State) :
    readChReg c k (s.setCh c { s.ch c with cfg := storeChReg q v (s.ch c).cfg }) = readChReg c k s := by
  simp only [readChReg, State.mstat, State.dirPin, State.stale, State.elapsed, State.ch_setCh, State.setCh_clk,
    ChanCfg.dirInv]
  cases k
  case mstat => cases q <;> simp_all [storeChReg, alsoReads]
  all_goals cases q <;> first | rfl | exact absurd rfl hk

theorem readReg_storeReg_chan_other {c : Chan} {q : ChReg} {r : Reg} (hr : r ≠ .chan c q)
    (ha : r ∉ alsoReads (.chan c q)) (v : Word) (s : State) :
    readReg r (storeReg (.chan c q) v s) = readReg r s := by
  cases r with
  | chan d k =>
    by_cases hd : d = c
    · subst hd
      exact readChReg_storeChReg (fun hk => hr (by rw [hk])) ha v s
    · exact readChReg_congr (State.ch_setCh_ne s _ hd) (State.setCh_clk s c _) k
  | _ => exact readReg_setCh (by nofun) s c _

/-- A PWM_TOP write shows in the compare values of the channels (R191). -/
theorem readChReg_storeReg_pwmTop {c : Chan} {k : ChReg} (hk : k ≠ .pwmCmp) (v : Word) (s : State) :
    readChReg c k (storeReg .pwmTop v s) = readChReg c k s := by
  simp only [readChReg, State.mstat, State.dirPin, State.stale, State.elapsed, storeReg_pwmTop_ch, storeReg_clk]
  cases k with
  | pwmCmp => exact absurd rfl hk
  | _ => rfl

/-- A write of a global register shows in no other global register. -/
theorem readReg_storeReg_global {r q : Reg} (hq : q ≠ r) (hr : ∀ c k, r ≠ .chan c k) (hqc : ∀ c k, q ≠ .chan c k)
    (v : Word) (s : State) : readReg q (storeReg r v s) = readReg q s := by
  cases r with
  | chan c k => exact absurd rfl (hr c k)
  | _ =>
    cases q with
    | chan c k => exact absurd rfl (hqc c k)
    | _ => first | rfl | exact absurd rfl hq

theorem readReg_storeReg_other {r q : Reg} (hq : q ≠ r) (ha : q ∉ alsoReads r)
    (v : Word) (s : State) : readReg q (storeReg r v s) = readReg q s := by
  by_cases hrc : ∃ c k, r = .chan c k
  · obtain ⟨c, k, rfl⟩ := hrc
    exact readReg_storeReg_chan_other hq ha v s
  · have hr : ∀ c k, r ≠ .chan c k := fun c k h => hrc ⟨c, k, h⟩
    cases q with
    | chan d k =>
      by_cases hp : r = .pwmTop
      · subst hp
        refine readChReg_storeReg_pwmTop (fun hk => ha ?_) v s
        subst hk
        cases d <;> simp [alsoReads]
      · exact readChReg_congr (storeReg_ch hp hr v s d) (storeReg_clk r v s) k
    | _ => exact readReg_storeReg_global hq hr (by nofun) v s

/-- Settles O7: an accepted write is a store, which reads back (`readReg_storeReg_self`) and shows nowhere else
(`readReg_storeReg_other`). -/
theorem writesReadBack : Obligations.WritesReadBack := by
  intro s addr v m r hb hr hp hm hok
  have hst : r ≠ .status := by rintro rfl; cases hm
  refine ⟨storeReg r v (done s), step_acceptedWrite hb hr hp hm hok, readReg_storeReg_self hm v (done s),
    fun q hq ha => readReg_storeReg_other hq ha v (done s), ?_⟩
  simp only [storeReg_codec, storeReg_utx, storeReg_urx, storeReg_par, storeReg_clk, storeReg_pins, storeReg_link_state,
    storeReg_link_sentSinceUp, storeReg_sticky hst, storeReg_bus, storeReg_rxb, storeReg_env, storeReg_rdata,
    storeReg_phase, storeReg_freeCtr]
  exact ⟨rfl, rfl, rfl, rfl, rfl, rfl, rfl, rfl, rfl, rfl, rfl, rfl, rfl, rfl, rfl,
    fun c => storeReg_ch_state r v (done s) c⟩

end Sys2Proof.Proofs
end

section
/-! Power-on reset (R64, R280, R282) and the stale condition with MSTAT (R56, R149, R192). -/

namespace Sys2Proof.Proofs

open Sys2Proof Sys2Proof.Machine Sys2Proof.Spec

/-! ## How a cycle begins (R280) -/

theorem step_inputs {s : State} (h : s.phase = .inputs) : step s = .next (inputsPhase s) := by simp [step, h]

theorem nextIn_eq_cycleInputs (s : State) : s.nextIn = cycleInputs s := by
  unfold State.nextIn cycleInputs
  cases s.env <;> rfl

theorem resetHeld_eq_inPowerOn (s : State) :
    resetHeld s.nextIn.pins { shiftSyncs s with env := s.env.tail } = inPowerOn s := by
  rw [nextIn_eq_cycleInputs]
  rfl

/-! ## What the registers read after power-on reset (R64, vector RST-1) -/

/-- The power-on state of a role, with the other parameter and the pins that no register reads fixed. -/
def powerOnOf (role : Role) (io : Bool) : State :=
  State.powerOn { role := role, msDiv := 0 } { Pins.quiet with ioFault := io }

/-- After power-on reset no register depends on P_MS_DIV, or on a pin but `io_fault`. -/
theorem readReg_powerOn (r : Reg) (par : Params) (pins : Pins) :
    readReg r (State.powerOn par pins) = readReg r (powerOnOf par.role pins.ioFault) := by
  cases r with
  | chan c q => cases c <;> cases q <;> rfl
  | _ => rfl

/-- Every listed offset reads its reset word (vector RST-1), 0 where the role has no such unit. -/
theorem powerOn_words (role : Role) (io : Bool) : ∀ e ∈ regMap,
    (if e.2.present role then readReg e.2 (powerOnOf role io) else 0#32) = resetWord role io e.1 := by
  simp only [regMap, List.forall_mem_append]
  cases role <;> cases io <;> exact ⟨⟨by decide, by decide⟩, by decide⟩

theorem resetWords_listed (role : Role) (io : Bool) : ∀ e ∈ resetWords role io, e.1 ∈ regMap.map (·.1) := by
  cases role <;> cases io <;> decide

theorem resetWord_unlisted {addr : Word} (h : regAt addr = none) (role : Role) (io : Bool) :
    resetWord role io (offset addr) = 0#32 := by
  rw [regAt_eq_find, Option.map_eq_none_iff, List.find?_eq_none] at h
  have hnone : (resetWords role io).find? (fun e => e.1 == offset addr) = none := by
    refine List.find?_eq_none.mpr fun e he hoff => ?_
    obtain ⟨x, hx, hxe⟩ := List.mem_map.mp (resetWords_listed role io e he)
    exact h x hx (by rw [hxe]; exact hoff)
  rw [resetWord, hnone]
  rfl

/-- A listed register stands in the map at its address's offset. -/
theorem mem_regMap {addr : Word} {r : Reg} (h : regAt addr = some r) : (offset addr, r) ∈ regMap := by
  have hoff := regAt_eq_some_iff.mp h
  rw [regAt_eq_find] at h
  obtain ⟨e, he, rfl⟩ := Option.map_eq_some_iff.mp h
  have hmem := List.mem_of_find?_eq_some he
  rwa [hoff, ← regMap_offset e hmem]

theorem busRead_powerOn (par : Params) (pins : Pins) (addr : Word) :
    busRead addr (State.powerOn par pins) = resetWord par.role pins.ioFault (offset addr) := by
  unfold busRead
  cases hr : regAt addr with
  | none => exact (resetWord_unlisted hr _ _).symm
  | some r =>
    simp only [readReg_powerOn]
    exact powerOn_words par.role pins.ioFault _ (mem_regMap hr)

/-- Settles O11: the three ways a cycle begins, and the reset words of the whole map (`busRead_powerOn`). -/
theorem powerOnReads : Obligations.PowerOnReads := by
  refine ⟨fun s hp hn => ?_, fun s hp hn hr => ?_, fun s hp hn hr => ?_, fun par pins => ⟨busRead_powerOn par pins, ?_, rfl, ?_⟩⟩
  · rw [← nextIn_eq_cycleInputs] at hn
    simp [step_inputs hp, inputsPhase, hn, ← resetHeld_eq_inPowerOn]
  · rw [← nextIn_eq_cycleInputs] at hn ⊢
    simp only [step_inputs hp, inputsPhase, hn, hr, ← resetHeld_eq_inPowerOn]
    rfl
  · rw [← nextIn_eq_cycleInputs] at hn ⊢
    simp only [step_inputs hp, inputsPhase, hn, hr]
    rfl
  · have hdir : (false != ChanCfg.atReset.dirInv) = false := by decide
    intro c
    cases c <;> exact ⟨rfl, hdir, rfl⟩
  · simp [State.irq, State.powerOn, Ctl.atReset]

/-! ## The stale condition and MSTAT (R56, R149, R192) -/

theorem stale_eq_isStale (s : State) (c : Chan) : s.stale c = isStale s c := rfl

/-- Sampling sets STALEc, bit 14 + c, while channel c is stale. -/
theorem sampleStale_eq (c : Chan) (s : State) :
    sampleStale c s = { s with ctl := { s.ctl with
      sticky := s.ctl.sticky ||| (if isStale s c then BitVec.ofNat 20 (2 ^ (14 + c.index)) else 0#20) } } := by
  rcases sampleStale_cases c s with ⟨hst, e⟩ | ⟨hst, e⟩ <;> rw [e, ← stale_eq_isStale, hst]
  · rfl
  · simp

theorem stalePhase_controller {s : State} (hr : s.par.role = .controller) :
    stalePhase s = { s with
      ctl := { s.ctl with sticky := s.ctl.sticky ||| (if isStale s .c0 then 0x04000#20 else 0#20) |||
        (if isStale s .c1 then 0x08000#20 else 0#20) }
      phase := .inputs } := by
  simp only [stalePhase, hr, if_true, sampleStale_eq]
  rfl

theorem stalePhase_host {s : State} (hr : s.par.role = .host) : stalePhase s = { s with phase := .inputs } := by
  simp [stalePhase, hr]

theorem mstat_bits (s : State) (c : Chan) :
    (List.range 9).map (fun i => (readReg (.chan c .mstat) s).getLsbD i) =
      [(s.ch c).mot.dirNeg, s.dirPin c, s.brakePin c, !feq (s.ch c).mot.target 0#32, isStale s c,
       (s.ch c).pid.satMin, (s.ch c).pid.satMax, (s.ch c).pid.numFault, false] := by
  have hrange : List.range 9 = [0, 1, 2, 3, 4, 5, 6, 7, 8] := rfl
  rw [hrange]
  simp [readReg, readChReg, State.mstat, State.brakePin, Motor.active, stale_eq_isStale, fZero]

/-- Settles O41, by the stale phase in each role and the bits of MSTAT. -/
theorem mstatBits : Obligations.MstatBits :=
  ⟨fun s hp hr => by rw [← stalePhase_controller hr]; simp [step, hp],
    fun s hp hr => by rw [← stalePhase_host hr]; simp [step, hp],
    fun s c => ⟨by simp [State.dirPin, ChanCfg.dirInv], rfl, mstat_bits s c⟩⟩

end Sys2Proof.Proofs
end

section
/-! The order of the agents (R80): no instruction, arriving byte or register write moves the phase, so each agent's own step
passes the turn on. -/

namespace Sys2Proof.Proofs

open Sys2Proof Sys2Proof.Machine Sys2Proof.Spec

/-! ## Whose turn it is, kept by the commands' checks -/

theorem inRole_phase {r : Role} {s f : State} (h : f.phase = s.phase) : (inRole r s f).phase = s.phase := by
  rcases inRole_cases r s f with ⟨-, e⟩ | ⟨-, e⟩ <;> rw [e]
  · exact h
  · rfl

theorem onChannel_phase {ch : BitVec 4} {s : State} {f : Chan → State} (h : ∀ c, (f c).phase = s.phase) :
    (onChannel ch s f).phase = s.phase := by
  rcases onChannel_cases ch s f with ⟨-, c, -, e⟩ | ⟨-, -, e⟩ | ⟨-, e⟩ <;> rw [e]
  · exact h c
  · rfl
  · rfl

theorem needFinite_phase {a : F32} {k : BitVec 4} {s f : State} (h : f.phase = s.phase) :
    (needFinite a k s f).phase = s.phase := by
  rcases needFinite_cases a k s f with ⟨-, e⟩ | ⟨-, e⟩ <;> rw [e]
  · exact h
  · rfl

theorem needRange_phase {ok : Bool} {k : BitVec 4} {s f : State} (h : f.phase = s.phase) :
    (needRange ok k s f).phase = s.phase := by
  rcases needRange_cases ok k s f with ⟨-, e⟩ | ⟨-, e⟩ <;> rw [e]
  · exact h
  · rfl

/-! ## The codec and the heartbeat -/

@[simp] theorem enqueue_phase (f : List Byte) (s : State) : (enqueue f s).phase = s.phase := by
  rcases enqueue_cases f s with ⟨-, -, e⟩ | ⟨-, -, -, e⟩ | ⟨-, -, -, e⟩ <;> rw [e]
  rfl

@[simp] theorem popFrame_phase (s : State) : (popFrame s).phase = s.phase := by
  rcases popFrame_cases s with ⟨-, e⟩ | ⟨f, q, -, e⟩ <;> rw [e]
  rcases storeFrame_cases f.payload { s with codec := { s.codec with rxq := q } } with ⟨-, v, e⟩ | ⟨-, l, e⟩ <;> rw [e]

@[simp] theorem deliver_phase (b : Byte) (s : State) : (deliver b s).phase = s.phase := by
  obtain ⟨_, _, _, e⟩ := deliver_frame b s
  rw [e]

@[simp] theorem deliverAll_phase (bs : List Byte) (s : State) : (deliverAll bs s).phase = s.phase := by
  obtain ⟨_, _, _, e⟩ := deliverAll_frame bs s
  rw [e]

@[simp] theorem reportBadInput_phase (s : State) : (reportBadInput s).phase = s.phase := by
  unfold reportBadInput
  split <;> rfl

@[simp] theorem heartbeat_phase (s : State) : (heartbeat s).phase = s.phase := by
  unfold heartbeat
  split
  · split <;> simp
  · rfl

@[simp] theorem linkStep_phase (s : State) : (linkStep s).phase = s.phase := by simp [linkStep]

/-! ## The channels -/

section
variable (c : Chan) (s : State)

@[simp] theorem encUpdate_phase : (encUpdate c s).phase = s.phase := by
  rcases encUpdate_cases c s with ⟨-, e⟩ | ⟨-, e⟩ <;> simp [e]

@[simp] theorem encReset_phase : (encReset c s).phase = s.phase := State.setEnc_phase s c _

@[simp] theorem pidReset_phase : (pidReset c s).phase = s.phase := State.setPid_phase s c _

@[simp] theorem numFault_phase : (numFault c s).phase = s.phase := State.setPid_phase s c _

@[simp] theorem pidEval_phase (target current dt : F32) : (pidEval c target current dt s).phase = s.phase := by
  rcases pidEval_cases c target current dt s with ⟨-, e⟩ | ⟨-, sat, -, e⟩ <;> rw [e]
  · exact numFault_phase c s
  · cases sat <;> simp

@[simp] theorem zeroOutput_phase : (zeroOutput c s).phase = s.phase := State.setMot_phase s c _

@[simp] theorem stopChannel_phase : (stopChannel c s).phase = s.phase := by
  unfold stopChannel
  dsimp only
  split <;> simp

@[simp] theorem armChannel_phase : (armChannel c s).phase = s.phase := by simp [armChannel]

@[simp] theorem setTarget_phase (rpm : F32) : (setTarget c rpm s).phase = s.phase := by
  unfold setTarget
  split
  · exact stopChannel_phase c s
  · unfold driveChannel
    dsimp only
    split <;> simp

@[simp] theorem stepFault_phase : (stepFault c s).phase = s.phase := by simp [stepFault]

@[simp] theorem stepChannel_phase : (stepChannel c s).phase = s.phase := by
  unfold stepChannel
  split
  · unfold stepExecuted
    dsimp only
    split <;> simp
  · rfl

@[simp] theorem brakeChannel_phase : (brakeChannel c s).phase = s.phase := by simp [brakeChannel]

end

/-! ## Instructions and register writes -/

/-- No instruction takes the turn from an agent, SOFT_RESET included. -/
theorem exec_phase {i : Instr} {s t : State} (h : exec i s = .next t) : t.phase = s.phase := by
  cases i <;> cases h
  case nop => rfl
  case setTarget ch => exact onChannel_phase fun c => needFinite_phase (setTarget_phase c s _)
  case step ch => exact onChannel_phase fun c => stepChannel_phase c s
  case brake ch => exact onChannel_phase fun c => brakeChannel_phase c s
  case pidReset ch => exact onChannel_phase fun c => pidReset_phase c s
  case pidCompute ch =>
    exact onChannel_phase fun c => needFinite_phase (needFinite_phase (needFinite_phase
      (needRange_phase (pidEval_phase c s _ _ _))))
  case encUpdate ch => exact onChannel_phase fun c => encUpdate_phase c s
  case encReset ch => exact onChannel_phase fun c => encReset_phase c s
  case txCmdFrame => exact inRole_phase (needFinite_phase (needFinite_phase (enqueue_phase _ s)))
  case txTlmFrame => exact inRole_phase (enqueue_phase _ s)
  case rxPop => exact popFrame_phase s
  case codecReset => rfl
  case linkStep => exact inRole_phase (linkStep_phase s)
  case softReset => rfl
  case velCmd p ck => exact deliverAll_phase _ s
  case telemetry p ck => exact deliverAll_phase _ s

theorem writeReg_phase (r : Reg) (v : Word) (s : State) : (writeReg r v s).phase = s.phase := by
  rcases writeReg_cases r v s with ⟨-, e⟩ | ⟨-, -, e⟩ | ⟨-, -, e⟩ <;> rw [e]
  · rfl
  · exact storeReg_phase r v s

/-! ## The step -/

/-- The parameters are kept by every kind of step (R9). -/
theorem stepKeeps_par (par : Params) : StepKeeps fun s => s.par = par where
  move h hs := h.par.trans hs
  reset h hs := h.par.trans hs
  sync hs := hs
  clock hs := by unfold timePhase; split <;> exact hs
  store _ hs := (storeReg_par _ _ _).trans hs

/-- A cycle held in reset is over at once, any other goes on with the clock (R280). -/
theorem inputsPhase_phase (s : State) :
    (inputsPhase s).phase = if s.nextIn.pins.rstN = false then .inputs else .time := by
  rcases inputsPhase_cases s with ⟨hn, e⟩ | ⟨hn, -, e⟩ | ⟨hn, -, e⟩ <;> rw [e, hn] <;> rfl

/-- The bus phase is over after its access, whatever the access does. -/
theorem busPhase_phase {s t : State} (h : busPhase s = .next t) : t.phase = .stale := by
  unfold busPhase at h
  split at h
  case h_1 => cases h; rfl
  case h_2 => cases h; rfl
  case h_3 r v _ => cases h; exact writeReg_phase r v _
  case h_4 w _ =>
    unfold runCommand at h
    split at h
    · exact exec_phase h
    · cases h; rfl

/-- The receiver's phase lasts while whole bytes or frames are there to take. -/
theorem rxPhase_phase {s t : State} (h : rxPhase s = .next t) :
    t.phase = if s.rxb = [] then .tx else s.phase := by
  unfold rxPhase at h
  split at h
  · rename_i hnil
    cases h
    rw [if_pos hnil]
    rfl
  · rename_i b rest hcons
    rw [hcons, if_neg (List.cons_ne_nil b rest)]
    split at h
    · exact (exec_phase h).trans rfl
    · cases h
      exact deliver_phase b _

theorem timePhase_phase (s : State) : (timePhase s).phase = .link := by
  unfold timePhase
  split <;> rfl

/-- Each agent passes the turn on as R80 orders them. -/
theorem step_phase {s t : State} (h : step s = .next t) :
    t.phase = (if s.phase = .inputs ∧ s.nextIn.pins.rstN = false then .inputs
               else if s.phase = .rx ∧ s.rxb ≠ [] then .rx else nextPhase s.phase) := by
  unfold step at h
  cases hp : s.phase <;> rw [hp] at h
  case rx =>
    rw [rxPhase_phase h, hp]
    by_cases hb : s.rxb = [] <;> simp [hb, nextPhase]
  case bus => simp [busPhase_phase h, nextPhase]
  all_goals cases h
  case inputs => simp [inputsPhase_phase, nextPhase]
  case time => simp [timePhase_phase, nextPhase]
  all_goals rfl

/-- Settles O20: the parameters by the induction over the kinds of step, the order by `step_phase`. -/
theorem agentsMoveInOrder : Obligations.AgentsMoveInOrder :=
  fun s _ h => ⟨(stepKeeps_par s.par).step h rfl, step_phase h⟩

end Sys2Proof.Proofs
end

section
/-! Bus reads (R20 to R57, R70, R77, R121): the word an address reads, the registers whose word is put together from several
fields, and that a read changes nothing. -/

namespace Sys2Proof.Proofs

open Sys2Proof Sys2Proof.Machine Sys2Proof.Spec

/-! ## The word an address reads (R22, R70) -/

theorem busRead_congr_offset {a b : Word} (h : offset a = offset b) (s : State) : busRead a s = busRead b s := by
  rw [busRead, busRead, regAt_eq_find a, regAt_eq_find b, h]

theorem busRead_present {addr : Word} {r : Reg} {s : State} (hr : regAt addr = some r)
    (hp : r.present s.par.role = true) : busRead addr s = readReg r s := by
  simp [busRead, hr, hp]

theorem busRead_absent {addr : Word} {r : Reg} {s : State} (hr : regAt addr = some r)
    (hp : r.present s.par.role = false) : busRead addr s = 0#32 := by
  simp [busRead, hr, hp]

theorem busRead_unlisted {addr : Word} (h : regAt addr = none) (s : State) : busRead addr s = 0#32 := by
  simp [busRead, h]

/-- CMD is write-only (R29). -/
theorem busRead_cmd {addr : Word} (h : offset addr = 0x018) (s : State) : busRead addr s = 0#32 :=
  busRead_present (r := .cmd) (regAt_eq_some_iff.mpr h) rfl

/-- The registers a role has are those that are no other role's (R4, R22). -/
theorem present_iff_onlyRole (r : Reg) (role : Role) :
    r.present role = true ↔ onlyRole r = none ∨ onlyRole r = some role := by
  cases r <;> cases role <;> simp [Reg.present, onlyRole]

/-- A read returns the register as it stands and takes the access (R77). -/
theorem step_read {s : State} {addr : Word} (h : onBus s (.read addr)) :
    step s = .next { done s with rdata := busRead addr s } := by
  obtain ⟨hp, hb⟩ := h
  simp only [step, hp, busPhase, hb, busOp]
  rfl

/-! ## Words given bit by bit -/

theorem getLsbD_wordOf (bits : List Bool) (i : Nat) :
    (wordOf bits).getLsbD i = (decide (i < 32) && bits.getD i false) := by
  rw [wordOf, BitVec.getLsbD_setWidth, BitVec.getLsbD_ofBoolListLE]

/-- A word whose first bits are these and whose other bits are 0. -/
theorem eq_wordOf {x : Word} {bits : List Bool} (hlow : (List.range bits.length).map x.getLsbD = bits)
    (hhigh : ∀ i, bits.length ≤ i → x.getLsbD i = false) : x = wordOf bits := by
  refine BitVec.eq_of_getLsbD_eq fun i hi => ?_
  rw [getLsbD_wordOf, decide_eq_true hi, Bool.true_and]
  by_cases h : i < bits.length
  · conv_rhs => rw [← hlow]
    simp [h]
  · rw [hhigh i (Nat.le_of_not_lt h), List.getD_eq_default _ _ (Nat.le_of_not_lt h)]

theorem readReg_cfg (s : State) : readReg .cfg s =
    wordOf [s.par.role == .host, s.ctl.cfg.getLsbD 0, s.ctl.cfg.getLsbD 1, s.ctl.cfg.getLsbD 2] := by
  have hrole : roleBit s.par.role = (s.par.role == .host) := by cases s.par.role <;> rfl
  refine eq_wordOf ?_ fun i hi => ?_
  · change [0, 1, 2, 3].map _ = _
    simp only [readReg, hrole, List.map_cons, List.map_nil, BitVec.getLsbD_or, getLsbD_flag, getLsbD_place]
    simp
  · have h0 : i ≠ 0 := by rintro rfl; simp at hi
    have h3 : 3 ≤ i - 1 := Nat.le_sub_one_of_lt hi
    simp [readReg, h0, BitVec.getLsbD_of_ge s.ctl.cfg _ h3]

/-- The live bits of STATUS are RX_AVAIL, LINK_UP and TX_IDLE, each at its position (R26). -/
theorem getLsbD_liveBits (s : State) :
    s.liveBits.getLsbD 3 = (s.codec.rxq != []) ∧ s.liveBits.getLsbD 11 = (s.link.state == .up) ∧
      s.liveBits.getLsbD 19 = (s.codec.txq == [] && !s.utx.busy) := by
  have hrx : s.rxAvail = (s.codec.rxq != []) := by cases h : s.codec.rxq <;> simp [State.rxAvail, h]
  have htx : s.txIdle = (s.codec.txq == [] && !s.utx.busy) := by cases h : s.codec.txq <;> simp [State.txIdle, h]
  simp only [State.liveBits, BitVec.getLsbD_or, getLsbD_flag, hrx, htx, State.linkUp]
  simp

/-- A sticky bit reads as stored, a live one as its condition is now (R26). -/
theorem readReg_status (s : State) : readReg .status s = wordOf (statusBits s) := by
  have hlen : (statusBits s).length = 20 := rfl
  obtain ⟨h3, h11, h19⟩ := getLsbD_liveBits s
  refine eq_wordOf (List.map_congr_left fun i hi => ?_) fun i hi => ?_
  · rw [hlen, List.mem_range] at hi
    rw [getLsbD_readReg_status, getLsbD_status s hi]
    by_cases hlive : i = 3 ∨ i = 11 ∨ i = 19
    · rw [if_pos hlive]
      rcases hlive with rfl | rfl | rfl
      · exact h3
      · exact h11
      · exact h19
    · obtain ⟨n3, n11, n19⟩ : i ≠ 3 ∧ i ≠ 11 ∧ i ≠ 19 := by simpa only [not_or] using hlive
      rw [if_neg hlive, if_neg n3, if_neg n11, if_neg n19]
  · exact (getLsbD_readReg_status s i).trans (BitVec.getLsbD_of_ge s.status i hi)

theorem readReg_linkStat (s : State) :
    readReg .linkStat s = wordOf [s.link.state == .up, s.utx.busy, s.urx.state == .busy] := by
  refine eq_wordOf ?_ fun i hi => ?_
  · change [0, 1, 2].map _ = _
    simp only [readReg, State.linkStat, State.linkUp, List.map_cons, List.map_nil, BitVec.getLsbD_or, getLsbD_flag]
    simp
  · obtain ⟨h0, h1, h2⟩ : i ≠ 0 ∧ i ≠ 1 ∧ i ≠ 2 := by simp at hi; omega
    simp [readReg, State.linkStat, h0, h1, h2]

/-- MSTAT is its eight bits (R56). -/
theorem readReg_mstat (s : State) (c : Chan) : readReg (.chan c .mstat) s = wordOf (Spec.mstatBits s c) := by
  refine eq_wordOf ?_ fun i hi => ?_
  · refine (congrArg List.dropLast (mstat_bits s c)).trans ?_
    simp [Spec.mstatBits, State.dirPin, State.brakePin, ChanCfg.dirInv]
  · have h8 : (s.mstat c).getLsbD i = false := BitVec.getLsbD_of_ge (s.mstat c) i hi
    simp [readReg, readChReg, h8]

/-! ## Words put together from fields -/

/-- A field placed above a word's bits adds its value times its place. -/
theorem toNat_or_place {n pos : Nat} {x : Word} (hx : x.toNat < 2 ^ pos) (y : BitVec n) (hfit : pos + n ≤ 32) :
    (x ||| place 32 y pos).toNat = x.toNat + 2 ^ pos * y.toNat := by
  have hy : 2 ^ pos * y.toNat < 2 ^ 32 := calc
    2 ^ pos * y.toNat < 2 ^ pos * 2 ^ n := Nat.mul_lt_mul_of_pos_left y.isLt (Nat.two_pow_pos pos)
    _ = 2 ^ (pos + n) := (pow_add 2 pos n).symm
    _ ≤ 2 ^ 32 := Nat.pow_le_pow_right Nat.two_pos hfit
  have hplace : (place 32 y pos).toNat = 2 ^ pos * y.toNat := by
    have hw : y.toNat < 2 ^ 32 := y.isLt.trans_le (Nat.pow_le_pow_right Nat.two_pos (by omega))
    rw [place, BitVec.toNat_shiftLeft, BitVec.toNat_setWidth, Nat.mod_eq_of_lt hw, Nat.shiftLeft_eq, Nat.mul_comm,
      Nat.mod_eq_of_lt hy]
  rw [BitVec.toNat_or, hplace, Nat.or_comm, ← Nat.two_pow_add_eq_or_of_lt hx, Nat.add_comm]

theorem toNat_place_zero {n : Nat} (y : BitVec n) (h : n ≤ 32) : (place 32 y 0).toNat = y.toNat := by
  have := toNat_or_place (x := 0#32) (pos := 0) (by decide) y (by omega)
  simpa using this

theorem readReg_errCode (s : State) :
    readReg .errCode s = BitVec.ofNat 32 (s.ctl.errCode.toNat + 256 * s.ctl.errCh.toNat) := by
  have hcode := toNat_place_zero s.ctl.errCode (by decide)
  have hlt := s.ctl.errCode.isLt
  refine BitVec.eq_of_toNat_eq ?_
  rw [readReg, toNat_or_place (by omega) s.ctl.errCh (by decide), hcode, BitVec.toNat_ofNat]
  omega

theorem readReg_fifoStat (s : State) : readReg .fifoStat s = BitVec.ofNat 32 (s.codec.rxq.length % 16 +
    2 ^ 8 * (s.codec.rxbuf.length % 256) + 2 ^ 16 * (s.codec.txq.length % 512)) := by
  have hframes := toNat_place_zero (BitVec.ofNat 4 s.codec.rxq.length) (by decide)
  rw [BitVec.toNat_ofNat] at hframes
  have hbytes := toNat_or_place (x := place 32 (BitVec.ofNat 4 s.codec.rxq.length) 0) (pos := 8) (by omega)
    (BitVec.ofNat 8 s.codec.rxbuf.length) (by decide)
  rw [hframes, BitVec.toNat_ofNat] at hbytes
  refine BitVec.eq_of_toNat_eq ?_
  rw [readReg, State.fifoStat, toNat_or_place (by omega) _ (by decide), hbytes, BitVec.toNat_ofNat, BitVec.toNat_ofNat]
  omega

/-! ## Every register -/

theorem readReg_computed {s : State} {r : Reg} {v : Word} (h : computedRead s r = some v) : readReg r s = v := by
  cases r with
  | id => exact Option.some.inj h
  | cmd => exact Option.some.inj h
  | cfg => exact (readReg_cfg s).trans (Option.some.inj h)
  | status => exact (readReg_status s).trans (Option.some.inj h)
  | errCode => exact (readReg_errCode s).trans (Option.some.inj h)
  | fifoStat => exact (readReg_fifoStat s).trans (Option.some.inj h)
  | linkStat => exact (readReg_linkStat s).trans (Option.some.inj h)
  | chan c q =>
    cases q with
    | winCount => exact Option.some.inj h
    | edgeAgeMs => exact Option.some.inj h
    | mstat => exact (readReg_mstat s c).trans (Option.some.inj h)
    | _ => cases h
  | _ => cases h

theorem readReg_stored (s : State) : ∀ e ∈ storedGlobal s ++ storedPayload s, readReg e.1 s = e.2 := by
  simp [storedGlobal, storedPayload, readReg]

theorem readReg_storedChan (s : State) (c : Chan) : ∀ e ∈ storedChan (s.ch c), readReg (.chan c e.1) s = e.2 := by
  simp [storedChan, readReg, readChReg]

/-- Settles O6: a read is `step_read`, and its word is that of the register the map puts at the offset. -/
theorem readsHaveNoSideEffect : Obligations.ReadsHaveNoSideEffect := fun s _ h =>
  ⟨step_read h, fun _ ha => busRead_congr_offset ha s, fun _ hr hp => busRead_present hr hp,
    fun _ hr hp => busRead_absent hr hp, fun hn => busRead_unlisted hn s, fun hc => busRead_cmd hc s,
    fun _ => regAt_eq_some_iff, present_iff_onlyRole, fun _ _ hv => readReg_computed hv, readReg_stored s,
    readReg_storedChan s⟩

end Sys2Proof.Proofs
end

section
/-! The code of instructions (R90, R91, R100 to R107): words and bytes taken apart and put together again, and that a word or
the bytes of a frame decode to an instruction exactly when they are its encoding. -/

namespace Sys2Proof.Proofs

open Sys2Proof Sys2Proof.Machine Sys2Proof.Spec

/-! ## Words from bytes (R11) -/

theorem joinBe32_be32 (w : Word) :
    joinBe32 (w.extractLsb' 24 8) (w.extractLsb' 16 8) (w.extractLsb' 8 8) (w.extractLsb' 0 8) = w := by
  refine BitVec.eq_of_getLsbD_eq fun i hi => ?_
  simp only [joinBe32, BitVec.getLsbD_or, getLsbD_place, BitVec.getLsbD_extractLsb']
  grind

theorem be32_joinBe32 (a b c d : Byte) : be32 (joinBe32 a b c d) = [a, b, c, d] := by
  simp only [be32, List.cons.injEq, and_true]
  refine ⟨?_, ?_, ?_, ?_⟩ <;> refine BitVec.eq_of_getLsbD_eq fun i hi => ?_ <;>
  · simp only [joinBe32, BitVec.getLsbD_extractLsb', BitVec.getLsbD_or, getLsbD_place]
    grind

theorem joinBe16_be16 (h : Half) : joinBe16 (h.extractLsb' 8 8) (h.extractLsb' 0 8) = h := by
  refine BitVec.eq_of_getLsbD_eq fun i hi => ?_
  simp only [joinBe16, BitVec.getLsbD_or, getLsbD_place, BitVec.getLsbD_extractLsb']
  grind

theorem be16_joinBe16 (a b : Byte) : be16 (joinBe16 a b) = [a, b] := by
  simp only [be16, List.cons.injEq, and_true]
  refine ⟨?_, ?_⟩ <;> refine BitVec.eq_of_getLsbD_eq fun i hi => ?_ <;>
  · simp only [joinBe16, BitVec.getLsbD_extractLsb', BitVec.getLsbD_or, getLsbD_place]
    grind

/-! ## Taking fields off the front of the bytes (R100 to R103) -/

theorem takeWord_eq_some {bs r : List Byte} {w : Word} : takeWord bs = some (w, r) ↔ bs = be32 w ++ r := by
  constructor
  · intro h
    unfold takeWord at h
    split at h
    · cases h
      simp [be32_joinBe32]
    · cases h
  · rintro rfl
    simp [be32, takeWord, joinBe32_be32]

theorem takeHalf_eq_some {bs r : List Byte} {w : Half} : takeHalf bs = some (w, r) ↔ bs = be16 w ++ r := by
  constructor
  · intro h
    unfold takeHalf at h
    split at h
    · cases h
      simp [be16_joinBe16]
    · cases h
  · rintro rfl
    simp [be16, takeHalf, joinBe16_be16]

theorem takeSum_eq_some {cw : SumWidth} {bs r : List Byte} {ck : Checksum} :
    takeSum cw bs = some (ck, r) ↔ ck.width = cw ∧ bs = ck.encode ++ r := by
  constructor
  · intro h
    unfold takeSum at h
    split at h
    · cases h
      exact ⟨rfl, rfl⟩
    · cases h
      exact ⟨rfl, by simp [Checksum.encode, be16_joinBe16]⟩
    · cases h
  · rintro ⟨rfl, rfl⟩
    cases ck with
    | sum8 b => rfl
    | sum16 w => simp [takeSum, Checksum.width, Checksum.encode, be16, joinBe16_be16]

theorem takeWord_bind_eq_some {β : Type} {bs : List Byte} {f : Word × List Byte → Option β} {y : β} :
    (takeWord bs).bind f = some y ↔ ∃ w r, bs = be32 w ++ r ∧ f (w, r) = some y := by
  simp only [Option.bind_eq_some_iff, Prod.exists, takeWord_eq_some]

theorem takeHalf_bind_eq_some {β : Type} {bs : List Byte} {f : Half × List Byte → Option β} {y : β} :
    (takeHalf bs).bind f = some y ↔ ∃ w r, bs = be16 w ++ r ∧ f (w, r) = some y := by
  simp only [Option.bind_eq_some_iff, Prod.exists, takeHalf_eq_some]

theorem takeSum_bind_eq_some {β : Type} {cw : SumWidth} {bs : List Byte} {f : Checksum × List Byte → Option β}
    {y : β} : (takeSum cw bs).bind f = some y ↔ ∃ ck r, (ck.width = cw ∧ bs = ck.encode ++ r) ∧ f (ck, r) = some y := by
  simp only [Option.bind_eq_some_iff, Prod.exists, takeSum_eq_some]

theorem takeVel_eq_some {cw : SumWidth} {bs r : List Byte} {i : Instr} :
    takeVel cw bs = some (i, r) ↔ ∃ p ck, i = .velCmd p ck ∧ ck.width = cw ∧ bs = p.bytes ++ ck.encode ++ r := by
  unfold takeVel
  constructor
  · intro h
    obtain ⟨linear, _, _, h⟩ := takeWord_bind_eq_some.mp h
    obtain ⟨angular, _, _, h⟩ := takeWord_bind_eq_some.mp h
    obtain ⟨ck, _, ⟨hcw, _⟩, h⟩ := takeSum_bind_eq_some.mp h
    cases h
    subst_vars
    exact ⟨_, ck, rfl, rfl, by simp only [VelWire.bytes, List.append_assoc]⟩
  · rintro ⟨p, ck, rfl, hcw, rfl⟩
    simp only [VelWire.bytes, List.append_assoc]
    iterate 2 refine takeWord_bind_eq_some.mpr ⟨_, _, rfl, ?_⟩
    exact takeSum_bind_eq_some.mpr ⟨_, _, ⟨hcw, rfl⟩, rfl⟩

theorem takeTlm_eq_some {cw : SumWidth} {bs r : List Byte} {i : Instr} :
    takeTlm cw bs = some (i, r) ↔
      ∃ p ck, i = .telemetry p ck ∧ ck.width = cw ∧ bs = p.bytes ++ ck.encode ++ r := by
  unfold takeTlm
  constructor
  · intro h
    obtain ⟨rpmLeft, _, _, h⟩ := takeWord_bind_eq_some.mp h
    obtain ⟨rpmRight, _, _, h⟩ := takeWord_bind_eq_some.mp h
    obtain ⟨battery, _, _, h⟩ := takeWord_bind_eq_some.mp h
    obtain ⟨accelX, _, _, h⟩ := takeWord_bind_eq_some.mp h
    obtain ⟨accelY, _, _, h⟩ := takeWord_bind_eq_some.mp h
    obtain ⟨accelZ, _, _, h⟩ := takeWord_bind_eq_some.mp h
    obtain ⟨gyroX, _, _, h⟩ := takeWord_bind_eq_some.mp h
    obtain ⟨gyroY, _, _, h⟩ := takeWord_bind_eq_some.mp h
    obtain ⟨gyroZ, _, _, h⟩ := takeWord_bind_eq_some.mp h
    obtain ⟨echoLinear, _, _, h⟩ := takeWord_bind_eq_some.mp h
    obtain ⟨echoAngular, _, _, h⟩ := takeWord_bind_eq_some.mp h
    obtain ⟨flags, _, _, h⟩ := takeHalf_bind_eq_some.mp h
    obtain ⟨ck, _, ⟨hcw, _⟩, h⟩ := takeSum_bind_eq_some.mp h
    cases h
    subst_vars
    exact ⟨_, ck, rfl, rfl, by simp only [TlmWire.bytes, List.append_assoc]⟩
  · rintro ⟨p, ck, rfl, hcw, rfl⟩
    simp only [TlmWire.bytes, List.append_assoc]
    iterate 11 refine takeWord_bind_eq_some.mpr ⟨_, _, rfl, ?_⟩
    exact takeHalf_bind_eq_some.mpr ⟨_, _, rfl, takeSum_bind_eq_some.mpr ⟨_, _, ⟨hcw, rfl⟩, rfl⟩⟩

/-! ## Frames (R100, R105) -/

theorem option_elim_eq_ok {α : Type} {o : Option α} {x : α} {e : FrameReject} :
    o.elim (.error e) Except.ok = .ok x ↔ o = some x := by
  cases o <;> simp

theorem decodeBody_eq_ok {cwCmd cwTlm : SumWidth} {id : Byte} {len : Half} {bs r : List Byte} {i : Instr} :
    decodeBody cwCmd cwTlm id len bs = .ok (i, r) ↔
      (id = 0x01#8 ∧ len = 8#16 ∧ takeVel cwCmd bs = some (i, r)) ∨
      (id = 0x02#8 ∧ len = 46#16 ∧ takeTlm cwTlm bs = some (i, r)) := by
  unfold decodeBody
  split_ifs with hvel hlen htlm hlen <;> simp_all [option_elim_eq_ok]

/-- What decodes begins with a start pair, an MSG_ID and a LEN, and its body decodes (R100). -/
theorem decodeFrame_eq_ok_iff_body {cwCmd cwTlm : SumWidth} {bs r : List Byte} {i : Instr} :
    decodeFrame cwCmd cwTlm bs = .ok (i, r) ↔
      ∃ id len body, bs = [0xAA#8, 0x55#8, id] ++ be16 len ++ body ∧
        decodeBody cwCmd cwTlm id len body = .ok (i, r) := by
  constructor
  · intro h
    unfold decodeFrame at h
    split at h
    · rename_i s1 s2 id hi lo body
      split_ifs at h with hstart
      obtain ⟨rfl, rfl⟩ := hstart
      exact ⟨id, joinBe16 hi lo, body, by simp [be16_joinBe16], h⟩
    · cases h
  · rintro ⟨id, len, body, rfl, h⟩
    rwa [← joinBe16_be16 len] at h

/-- The bytes that decode to a frame and a rest are exactly its encoding followed by the rest (R100, R105). -/
theorem decodeFrame_eq_ok {cwCmd cwTlm : SumWidth} {bs rest : List Byte} {i : Instr} :
    decodeFrame cwCmd cwTlm bs = .ok (i, rest) ↔
      sumFits cwCmd cwTlm i ∧ ∃ f, encode i = .frame f ∧ bs = f ++ rest := by
  rw [decodeFrame_eq_ok_iff_body]
  simp only [decodeBody_eq_ok, takeVel_eq_some, takeTlm_eq_some]
  constructor
  · rintro ⟨_, _, _, rfl, ⟨rfl, rfl, p, ck, rfl, hck, rfl⟩ | ⟨rfl, rfl, p, ck, rfl, hck, rfl⟩⟩
    · exact ⟨hck, _, rfl, by simp only [velFrameBytes, frameBytes, List.append_assoc]⟩
    · exact ⟨hck, _, rfl, by simp only [tlmFrameBytes, frameBytes, List.append_assoc]⟩
  · rintro ⟨hck, f, hf, rfl⟩
    cases i with
    | velCmd p ck =>
      cases hf
      exact ⟨0x01#8, 8#16, p.bytes ++ ck.encode ++ rest, by simp only [velFrameBytes, frameBytes, List.append_assoc],
        .inl ⟨rfl, rfl, p, ck, rfl, hck, rfl⟩⟩
    | telemetry p ck =>
      cases hf
      exact ⟨0x02#8, 46#16, p.bytes ++ ck.encode ++ rest, by simp only [tlmFrameBytes, frameBytes, List.append_assoc],
        .inr ⟨rfl, rfl, p, ck, rfl, hck, rfl⟩⟩
    | _ => cases hf

/-! ## Command words (R90, R91) -/

theorem cmdWord_op (op : Byte) (ch : BitVec 4) : (cmdWord op ch).extractLsb' 0 8 = op := by
  refine BitVec.eq_of_getLsbD_eq fun i hi => ?_
  simp only [cmdWord, BitVec.getLsbD_extractLsb', BitVec.getLsbD_or, getLsbD_place]
  grind

theorem cmdWord_ch (op : Byte) (ch : BitVec 4) : (cmdWord op ch).extractLsb' 8 4 = ch := by
  refine BitVec.eq_of_getLsbD_eq fun i hi => ?_
  simp only [cmdWord, BitVec.getLsbD_extractLsb', BitVec.getLsbD_or, getLsbD_place]
  grind

/-- A word with bits 31:12 zero is the word of its OP and CH fields (R90). -/
theorem eq_cmdWord {w : Word} (h : w.extractLsb' 12 20 = 0#20) : w = cmdWord (w.extractLsb' 0 8) (w.extractLsb' 8 4) := by
  refine BitVec.eq_of_getLsbD_eq fun i hi => ?_
  have hbit : w.getLsbD (12 + (i - 12)) = true → ¬ i - 12 < 20 := fun hw hlt => by
    have := congrArg (·.getLsbD (i - 12)) h
    simp [hlt, hw] at this
  simp only [cmdWord, BitVec.getLsbD_extractLsb', BitVec.getLsbD_or, getLsbD_place]
  grind

theorem decodeCmd_cmdWord (op : Byte) (ch : BitVec 4) : decodeCmd (cmdWord op ch) = decodeOp op ch := by
  rw [decodeCmd, Laws.cmdWord_reserved, cmdWord_op, cmdWord_ch, if_neg (not_not.mpr rfl)]

theorem eq_ofNat_of_toNat {op : Byte} {n : Nat} (h : op.toNat = n) : op = BitVec.ofNat 8 n := by
  rw [← h, BitVec.ofNat_toNat, BitVec.setWidth_eq]

theorem encode_of_plainOp {i j : Instr} {n : Nat} {op : Byte} {ch : BitVec 4} (hop : op.toNat = n)
    (h : plainOp i ch = .ok j) (he : encode i = .command (cmdWord (BitVec.ofNat 8 n) 0#4)) (hi : i.wellFormed = true) :
    encode j = .command (cmdWord op ch) ∧ j.wellFormed = true := by
  obtain ⟨rfl, rfl⟩ := plainOp_eq_ok.mp h
  exact ⟨eq_ofNat_of_toNat hop ▸ he, hi⟩

theorem encode_of_channelOp {f : BitVec 4 → Instr} {j : Instr} {n : Nat} {op : Byte} {ch : BitVec 4}
    (hop : op.toNat = n) (h : channelOp f ch = .ok j) (he : encode (f ch) = .command (cmdWord (BitVec.ofNat 8 n) ch))
    (hf : (f ch).channelField = some ch) : encode j = .command (cmdWord op ch) ∧ j.wellFormed = true := by
  obtain ⟨hch, rfl⟩ := channelOp_eq_ok.mp h
  exact ⟨eq_ofNat_of_toNat hop ▸ he, by rw [Instr.wellFormed, hf]; exact decide_eq_true hch⟩

/-- The instruction an OP of R91's map decodes to is well formed, and the encoder gives it that OP and CH. -/
theorem encode_of_decodeOp {op : Byte} {ch : BitVec 4} {i : Instr} (h : decodeOp op ch = .ok i) :
    encode i = .command (cmdWord op ch) ∧ i.wellFormed = true := by
  unfold decodeOp at h
  split at h
  case h_1 hop | h_9 hop | h_10 hop | h_11 hop | h_12 hop | h_13 hop | h_14 hop => exact encode_of_plainOp hop h rfl rfl
  case h_2 hop | h_3 hop | h_4 hop | h_5 hop | h_6 hop | h_7 hop | h_8 hop => exact encode_of_channelOp hop h rfl rfl
  case h_15 => cases h

/-- A well-formed instruction with a channel field has it at 0 or 1 (R91). -/
theorem channelOp_of_wellFormed {f : BitVec 4 → Instr} {ch : BitVec 4} (hf : (f ch).channelField = some ch)
    (h : (f ch).wellFormed = true) : channelOp f ch = .ok (f ch) := by
  rw [Instr.wellFormed, hf] at h
  exact channelOp_eq_ok.mpr ⟨of_decide_eq_true h, rfl⟩

/-- The words that decode to an instruction are exactly the encoding of a well-formed one (R90 to R92). -/
theorem decodeCmd_eq_ok {w : Word} {i : Instr} :
    decodeCmd w = .ok i ↔ encode i = .command w ∧ i.wellFormed = true := by
  constructor
  · intro h
    unfold decodeCmd at h
    split_ifs at h with hres
    obtain ⟨he, hi⟩ := encode_of_decodeOp h
    exact ⟨by rw [he, ← eq_cmdWord (not_not.mp hres)], hi⟩
  · rintro ⟨he, hi⟩
    cases i with
    | velCmd p ck => cases he
    | telemetry p ck => cases he
    | setTarget ch | step ch | brake ch | pidReset ch | pidCompute ch | encUpdate ch | encReset ch =>
      cases he
      exact (decodeCmd_cmdWord _ ch).trans (channelOp_of_wellFormed rfl hi)
    | nop | txCmdFrame | txTlmFrame | rxPop | codecReset | linkStep | softReset =>
      cases he
      exact (decodeCmd_cmdWord _ 0#4).trans (plainOp_eq_ok.mpr ⟨rfl, rfl⟩)

/-! ## The obligations -/

/-- Settles O1: a word by `decodeCmd_eq_ok`, a frame by `decodeFrame_eq_ok` with no bytes after it. -/
theorem decodeInvertsEncode : Obligations.DecodeInvertsEncode := by
  intro cwCmd cwTlm i hwf hfits
  cases hc : encode i with
  | command w => simp [decode, decodeCmd_eq_ok.mpr ⟨hc, hwf⟩, Except.toOption]
  | frame bs =>
    have hframe : decodeFrame cwCmd cwTlm bs = .ok (i, []) :=
      decodeFrame_eq_ok.mpr ⟨hfits, bs, hc, (List.append_nil bs).symm⟩
    simp [decode, hframe]

/-- Settles O2: the forward directions of `decodeCmd_eq_ok` and `decodeFrame_eq_ok`. -/
theorem decodedIsTheEncoding : Obligations.DecodedIsTheEncoding :=
  ⟨fun _ _ h => decodeCmd_eq_ok.mp h, fun _ _ _ _ _ h => decodeFrame_eq_ok.mp h⟩

/-- Settles O3: each word that decodes is its instruction's encoding, as are EX-1's bytes; the two rejected words fail their
check by computation. -/
theorem specWordsDecode : Obligations.SpecWordsDecode := by
  have hword : ∀ {w : Word} {i : Instr}, encode i = .command w → i.wellFormed = true → decodeCmd w = .ok i :=
    fun he hi => decodeCmd_eq_ok.mpr ⟨he, hi⟩
  refine ⟨hword rfl rfl, hword rfl rfl, hword rfl rfl, hword rfl rfl, hword rfl rfl, hword rfl rfl, hword rfl rfl,
    hword rfl rfl, by decide, by decide, decodeFrame_eq_ok.mpr ⟨rfl, _, rfl, by decide⟩⟩

end Sys2Proof.Proofs
end

section
/-! The checks of a command word (R92, R120, R263): what the dispatch reports for a word is the first check of R92 that it
fails. -/

namespace Sys2Proof.Proofs

open Sys2Proof Sys2Proof.Machine Sys2Proof.Spec

/-- The report of R262 as the statements write it. -/
theorem raiseError_eq_report (e : ErrKind) (k : BitVec 4) (s : State) : raiseError e k s = report e k s := by
  cases e with
  | numFault c => cases c <;> rfl
  | _ => rfl

/-- The error the dispatch reports for a decoded word in a role, if it reports one: what the decoder rejects, and an
instruction of the other role (R92). -/
def reportedKind (r : Role) : Except CmdReject Instr → Option ErrKind
  | .error e => some (rejectKind r e)
  | .ok i => if legalIn i r then none else some .cmdWrongRole

/-- An operation whose CH must be 0: first the role, then CH (R92 items 3 and 4). -/
theorem reportedKind_plainOp (r : Role) (i : Instr) (ch : BitVec 4) :
    reportedKind r (plainOp i ch) =
      if legalIn i r then (if 1 ≤ ch.toNat then some .cmdBadChannel else none) else some .cmdWrongRole := by
  have hch : ch = 0#4 ↔ ¬ 1 ≤ ch.toNat := by rw [← BitVec.toNat_inj]; simp
  unfold plainOp
  by_cases h : 1 ≤ ch.toNat
  · rw [if_neg (by rw [hch]; exact not_not.mpr h), if_pos h]
    simp only [reportedKind, rejectKind]
    split <;> rfl
  · rw [if_pos (hch.mpr h), if_neg h]
    rfl

/-- A channel operation: first the role, then CH (R92 items 3 and 4). -/
theorem reportedKind_channelOp (r : Role) (f : BitVec 4 → Instr) (ch : BitVec 4) :
    reportedKind r (channelOp f ch) =
      if legalIn (f ch) r then (if 2 ≤ ch.toNat then some .cmdBadChannel else none) else some .cmdWrongRole := by
  unfold channelOp
  by_cases h : ch.toNat < 2
  · rw [if_pos h, if_neg (Nat.not_le.mpr h)]
    rfl
  · rw [if_neg h, if_pos (Nat.not_lt.mp h)]
    simp only [reportedKind, rejectKind]
    split <;> rfl

theorem reservedBits_iff (w : Word) : w.extractLsb' 12 20 ≠ 0#20 ↔ 4096 ≤ w.toNat := by
  rw [ne_eq, ← BitVec.toNat_inj, BitVec.extractLsb'_toNat, Nat.shiftRight_eq_div_pow, BitVec.toNat_ofNat]
  omega

theorem opTable_find_none {n : Nat} (h : ∀ r ∈ opTable, n ≠ r.op) : opTable.find? (fun r => r.op == n) = none :=
  List.find?_eq_none.mpr fun r hr => by simpa using (h r hr).symm

/-- R92's checks by the statement's table are those of the dispatch, in the same order. -/
theorem firstFailing_eq_reportedKind (role : Role) (w : Word) :
    firstFailing role w = reportedKind role (decodeCmd w) := by
  unfold firstFailing decodeCmd
  by_cases hres : 4096 ≤ w.toNat
  · rw [if_pos hres, if_pos ((reservedBits_iff w).mpr hres)]
    rfl
  · rw [if_neg hres, if_neg (fun h => hres ((reservedBits_iff w).mp h))]
    have hop : w.toNat % 256 = (w.extractLsb' 0 8).toNat := by simp [BitVec.extractLsb'_toNat]
    have hch : w.toNat / 256 = (w.extractLsb' 8 4).toNat := by
      rw [BitVec.extractLsb'_toNat, Nat.shiftRight_eq_div_pow]; omega
    rw [hop, hch]
    generalize w.extractLsb' 0 8 = op
    generalize w.extractLsb' 8 4 = ch
    generalize hd : decodeOp op ch = d
    unfold decodeOp at hd
    split at hd
    case h_1 h | h_9 h | h_10 h | h_11 h | h_12 h | h_13 h | h_14 h =>
      rw [h, ← hd, reportedKind_plainOp]
      cases role <;> rfl
    case h_2 h | h_3 h | h_4 h | h_5 h | h_6 h | h_7 h | h_8 h =>
      rw [h, ← hd, reportedKind_channelOp]
      cases role <;> rfl
    case h_15 =>
      rw [← hd, opTable_find_none (by simp_all [opTable])]
      rfl

/-- In a role that an operation is not legal in, nothing happens but the report 0x03 (R92 item 3). -/
theorem exec_wrongRole {i : Instr} {s : State} (h : legalIn i s.par.role = false) :
    exec i s = .next (raiseError .cmdWrongRole 0#4 s) := by
  have hneg : ∀ {r r' : Role}, (r == r') = false → r ≠ r' := fun h => by simpa using h
  cases i with
  | setTarget ch | step ch | brake ch | pidReset ch | pidCompute ch | encUpdate ch | encReset ch | txTlmFrame | txCmdFrame
  | linkStep =>
    exact congrArg Host.Outcome.next (if_neg (hneg h))
  | _ => cases h

/-- A command word reports the first check it fails, with channel 0, and runs its instruction when it fails none. -/
theorem runCommand_of_firstFailing (w : Word) (s : State) :
    (∀ e, firstFailing s.par.role w = some e → runCommand w s = .next (report e 0#4 s)) ∧
    (firstFailing s.par.role w = none →
      ∃ i, decodeCmd w = .ok i ∧ i.wellFormed = true ∧ runCommand w s = exec i s) := by
  rw [firstFailing_eq_reportedKind, runCommand]
  cases hd : decodeCmd w with
  | error r =>
    refine ⟨fun e he => ?_, nofun⟩
    cases he
    exact congrArg Host.Outcome.next (raiseError_eq_report _ _ _)
  | ok i =>
    refine ⟨fun e he => ?_, fun _ => ⟨i, rfl, (decodeCmd_eq_ok.mp hd).2, rfl⟩⟩
    cases hl : legalIn i s.par.role with
    | true => simp [reportedKind, hl] at he
    | false =>
      simp only [reportedKind, hl] at he
      cases he
      rw [← raiseError_eq_report]
      exact exec_wrongRole hl

/-- Settles O5: the bus hands the word to the dispatch (`step_command`), whose checks are the table's. -/
theorem firstFailingCheckIsReported : Obligations.FirstFailingCheckIsReported := fun s addr w hb ha => by
  rw [step_command hb ha]
  exact runCommand_of_firstFailing w (done s)

end Sys2Proof.Proofs
end

section
/-! Frames at the receiver (R207 to R217): a frame's bytes wait in the buffer until the last one, then the checksum decides;
what cannot hold a whole frame is dropped without effect on the queue. -/

namespace Sys2Proof.Proofs

open Sys2Proof Sys2Proof.Machine Sys2Proof.Spec

/-! ## The scanner at a start pair (R209): one iteration does what the verdict on the buffer says -/

theorem discard_zero (s : State) : Machine.discard 0 s = s := by simp [Machine.discard]

theorem findStart_pair (r : List Byte) : findStart (0xAA#8 :: 0x55#8 :: r) = some 0 := by simp [findStart]

section
variable {s : State} (h : findStart s.codec.rxbuf = some 0)
include h

theorem scanIter_wait (hv : judge s.par.role s.rxCw s.codec.rxbuf = .wait) : scanIter s = (s, false) := by
  simp [scanIter, searchDrop, h, discard_zero, hv]

theorem scanIter_unknownId (hv : judge s.par.role s.rxCw s.codec.rxbuf = .unknownId) :
    scanIter s = (rejectId s, true) := by
  simp [scanIter, searchDrop, h, discard_zero, hv]

theorem scanIter_badSum (hv : judge s.par.role s.rxCw s.codec.rxbuf = .badSum) : scanIter s = (rejectSum s, true) := by
  simp [scanIter, searchDrop, h, discard_zero, hv]

theorem scanIter_valid {id : Byte} {p : List Byte} {n : Nat}
    (hv : judge s.par.role s.rxCw s.codec.rxbuf = .valid id p n) :
    scanIter s = (consume n (acceptFrame { id := id, payload := p } s), true) := by
  simp [scanIter, searchDrop, h, discard_zero, hv]

end

theorem scanLoop_of_continue {n : Nat} {s t : State} (h : scanIter s = (t, true)) :
    scanLoop (n + 1) s = scanLoop n t := by
  simp [scanLoop, h]

theorem scanLoop_empty (n : Nat) {s : State} (h : s.codec.rxbuf = []) : scanLoop n s = s := by
  cases n with
  | zero => rfl
  | succ n => simp [scanLoop, scanIter, h, findStart, searchDrop, discard_zero]

/-! ## The verdict on a frame's bytes (R209, R210) -/

theorem judge_of_length_lt {r : Role} {cw : SumWidth} {buf : List Byte} (h : buf.length < 5) : judge r cw buf = .wait :=
  by_contra fun hne => absurd (judge_ne_wait hne) (by omega)

theorem judge_otherId {r : Role} {cw : SumWidth} {id : Byte} (h : id ≠ rxId r) (len : Half) (body : List Byte) :
    judge r cw ([0xAA#8, 0x55#8, id] ++ be16 len ++ body) = .unknownId := if_pos h

theorem judge_partBody {r : Role} {cw : SumWidth} {len : Half} (hlen : len.toNat = rxLen r) {body : List Byte}
    (hb : body.length < rxLen r + cw.bytes) :
    judge r cw ([0xAA#8, 0x55#8, rxId r] ++ be16 len ++ body) = .wait := by
  simp [judge, be16, joinBe16_be16, hlen, hb]

/-- A whole frame of the role is judged by its checksum. -/
theorem judge_frameBytes {r : Role} {cw : SumWidth} {len : Half} (hlen : len.toNat = rxLen r) {p sum : List Byte}
    (hp : p.length = rxLen r) (hs : sum.length = cw.bytes) :
    judge r cw (frameBytes (rxId r) len p sum) =
      if sum ≠ csum cw (rxId r) len p then .badSum else .valid (rxId r) p (5 + rxLen r + cw.bytes) := by
  simp [judge, frameBytes, be16, joinBe16_be16, hlen, ← hp, ← hs]

/-- Too few bytes for a frame wait, or their header is rejected. -/
theorem judge_of_short {r : Role} {cw : SumWidth} {buf : List Byte} (h : buf.length < 5 + rxLen r + cw.bytes) :
    judge r cw buf = .wait ∨ judge r cw buf = .unknownId ∨ judge r cw buf = .badLength := by
  unfold judge
  split
  · rename_i a b id hi lo body
    simp only [List.length_cons] at h
    by_cases hid : id = rxId r
    · by_cases hlen : (joinBe16 hi lo).toNat = rxLen r
      · exact .inl (by simp only [hid, hlen]; simp; omega)
      · simp [hid, hlen]
    · simp [hid]
  · exact .inl rfl

/-! ## Bytes that wait (R208, R209) -/

/-- With this receive buffer the scanner changes nothing and stops. -/
def Waits (s : State) (buf : List Byte) : Prop := scanIter (setRxbuf buf s) = (setRxbuf buf s, false)

theorem decodeRx_of_waits {s : State} {buf : List Byte} (h : Waits s buf) :
    decodeRx (setRxbuf buf s) = setRxbuf buf s := by
  rw [decodeRx, scanLoop, h]
  rfl

theorem deliver_setRxbuf {s : State} (hl : s.link.state = .up) (buf : List Byte) (b : Byte) :
    deliver b (setRxbuf buf s) = decodeRx (setRxbuf (buf ++ [b]) s) := if_pos hl

theorem setRxbuf_of_rxbuf {s : State} {buf : List Byte} (h : s.codec.rxbuf = buf) : setRxbuf buf s = s := by
  subst h; rfl

/-- The first bytes of a string that wait one after the other stand in the buffer in the end. -/
theorem deliverAll_take_of_waits {s : State} {bs : List Byte} (hl : s.link.state = .up) (he : s.codec.rxbuf = [])
    {n : Nat} (hn : n ≤ bs.length) (hw : ∀ k, 1 ≤ k → k ≤ n → Waits s (bs.take k)) :
    deliverAll (bs.take n) s = setRxbuf (bs.take n) s := by
  induction n with
  | zero => exact (setRxbuf_of_rxbuf he).symm
  | succ n ih =>
    have hstep := decodeRx_of_waits (hw (n + 1) (by omega) le_rfl)
    rw [List.take_succ_eq_append_getElem (by omega)] at hstep ⊢
    rw [deliverAll_append, ih (by omega) fun k h1 hk => hw k h1 (by omega)]
    exact (deliver_setRxbuf hl _ _).trans hstep

/-- When all but the last of the bytes wait, the scanner runs on all of them at once. -/
theorem deliverAll_eq_decodeRx {s : State} {bs : List Byte} (hl : s.link.state = .up) (he : s.codec.rxbuf = [])
    (hne : bs ≠ []) (hw : ∀ k, 1 ≤ k → k < bs.length → Waits s (bs.take k)) :
    deliverAll bs s = decodeRx (setRxbuf bs s) := by
  have hpos := List.length_pos_iff.mpr hne
  have hfront := deliverAll_take_of_waits hl he (n := bs.length - 1) (by omega) fun k h1 hk => hw k h1 (by omega)
  rw [← List.dropLast_eq_take] at hfront
  calc deliverAll bs s
      = deliverAll [bs.getLast hne] (deliverAll bs.dropLast s) := by
        rw [← deliverAll_append, List.dropLast_append_getLast hne]
    _ = decodeRx (setRxbuf (bs.dropLast ++ [bs.getLast hne]) s) := by
        rw [hfront]
        exact deliver_setRxbuf hl _ _
    _ = decodeRx (setRxbuf bs s) := by rw [List.dropLast_append_getLast hne]

/-- A start pair with part of a header waits. -/
theorem waits_start (s : State) (r : List Byte) {k : Nat} (h1 : 1 ≤ k) (h5 : k < 5) :
    Waits s ((0xAA#8 :: 0x55#8 :: r).take k) := by
  match k with
  | 1 => simp [Waits, scanIter, setRxbuf, findStart, searchDrop, discard_zero]
  | k + 2 => exact scanIter_wait (findStart_pair _) (judge_of_length_lt (by simp [setRxbuf]; omega))

/-- Every part of a frame of the role waits (R209 part 2). -/
theorem waits_frame (s : State) {len : Half} (hlen : len.toNat = rxLen s.par.role) {p sum : List Byte}
    (hp : p.length = rxLen s.par.role) (hs : sum.length = s.rxCw.bytes) {k : Nat} (h1 : 1 ≤ k)
    (hk : k < (frameBytes (rxId s.par.role) len p sum).length) :
    Waits s ((frameBytes (rxId s.par.role) len p sum).take k) := by
  by_cases h5 : k < 5
  · exact waits_start s _ h1 h5
  · obtain ⟨j, rfl⟩ := Nat.exists_eq_add_of_le (Nat.not_lt.mp h5)
    have htake : (frameBytes (rxId s.par.role) len p sum).take (5 + j) =
        [0xAA#8, 0x55#8, rxId s.par.role] ++ be16 len ++ (p ++ sum).take j := by
      simp [frameBytes, be16, Nat.add_comm 5 j]
    rw [htake]
    have hbody : ((p ++ sum).take j).length < rxLen s.par.role + s.rxCw.bytes := by
      simp only [frameBytes, be16, List.length_append, List.length_cons, List.length_nil] at hk
      simp only [List.length_take, List.length_append]
      omega
    exact scanIter_wait (findStart_pair _) (judge_partBody hlen hbody)

/-! ## Checksums (R101, R201) -/

theorem be16_ofNat (n : Nat) : be16 (BitVec.ofNat 16 n) = [BitVec.ofNat 8 (n / 256), BitVec.ofNat 8 n] := by
  simp only [be16, List.cons.injEq, and_true]
  constructor <;> refine BitVec.eq_of_toNat_eq ?_ <;>
    simp only [BitVec.extractLsb'_toNat, BitVec.toNat_ofNat, Nat.shiftRight_eq_div_pow] <;> omega

theorem byteSum_be16 (len : Half) : byteSum (be16 len) = len.toNat / 256 + len.toNat % 256 := by
  have := len.isLt
  simp only [byteSum, be16, List.map_cons, List.map_nil, List.sum_cons, List.sum_nil, BitVec.extractLsb'_toNat,
    Nat.shiftRight_eq_div_pow]
  omega

theorem byteSum_append (as bs : List Byte) : byteSum (as ++ bs) = byteSum as + byteSum bs := by
  simp [byteSum]

theorem cwOf_eq (s : State) (id : Byte) : s.cwOf id = sumWidth (csum16 s id) := rfl

/-- The decoder's checksum is the sum of MSG_ID, the LEN bytes and the payload, in the channel's width (R201). -/
theorem csum_eq_sumBytes (s : State) (id : Byte) {len : Half} {p : List Byte} (h : len.toNat = p.length) :
    csum (s.cwOf id) id len p = sumBytes (csum16 s id) id p := by
  have hsum : byteSum ([id] ++ be16 len ++ p) =
      id.toNat + p.length / 256 + p.length % 256 + (p.map BitVec.toNat).sum := by
    rw [byteSum_append, byteSum_append, byteSum_be16, h]
    simp only [byteSum, List.map_cons, List.map_nil, List.sum_cons, List.sum_nil]
    omega
  rw [cwOf_eq]
  unfold csum
  rw [hsum]
  cases csum16 s id with
  | false => rfl
  | true => exact be16_ofNat _

theorem cwOf_bytes (s : State) (id : Byte) : (s.cwOf id).bytes = if csum16 s id then 2 else 1 := by
  rw [cwOf_eq]
  cases csum16 s id <;> rfl

/-! ## A frame of the role arrives (R209, R211) -/

/-- The bytes of a frame of the role reach the scanner as a whole. -/
theorem deliverAll_frameBytes {s : State} (hl : s.link.state = .up) (he : s.codec.rxbuf = []) {len : Half}
    (hlen : len.toNat = rxLen s.par.role) {p sum : List Byte} (hp : p.length = rxLen s.par.role)
    (hs : sum.length = s.rxCw.bytes) :
    deliverAll (frameBytes (rxId s.par.role) len p sum) s =
      decodeRx (setRxbuf (frameBytes (rxId s.par.role) len p sum) s) :=
  deliverAll_eq_decodeRx hl he nofun fun _ h1 hk => waits_frame s hlen hp hs h1 hk

theorem length_frameBytes (id : Byte) (len : Half) (p sum : List Byte) :
    (frameBytes id len p sum).length = 5 + p.length + sum.length := by
  simp [frameBytes, be16]; omega

theorem length_csum (cw : SumWidth) (id : Byte) (len : Half) (p : List Byte) : (csum cw id len p).length = cw.bytes := by
  cases cw <;> rfl

/-- `accept` with the frame's bytes gone from an otherwise empty buffer (R211). -/
theorem consume_acceptFrame {s : State} (he : s.codec.rxbuf = []) (buf : List Byte) (f : Frame) :
    consume buf.length (acceptFrame f (setRxbuf buf s)) = accepted f s := by
  have hbuf : { s.codec with rxbuf := [] } = s.codec := by rw [← he]
  rcases acceptFrame_cases f (setRxbuf buf s) with ⟨hfull, e⟩ | ⟨hfull, e⟩ <;>
    rw [e] <;> simp only [setRxbuf, Config.rxFrameCap] at hfull
  · simp [consume, accepted, hfull, setRxbuf, raiseError_eq_report, report, hbuf, stickyOr]
  · simp [consume, accepted, hfull, setRxbuf, he]

/-- A frame with its right checksum is accepted (R211). -/
theorem deliverAll_rightSum {s : State} (hl : s.link.state = .up) (he : s.codec.rxbuf = []) {id : Byte}
    (hid : id = rxId s.par.role) {len : Half} (hlen : len.toNat = rxLen s.par.role) {p sum : List Byte}
    (hp : p.length = rxLen s.par.role) (hsum : sum = sumBytes (csum16 s id) id p) :
    deliverAll (frameBytes id len p sum) s = accepted { id := id, payload := p } s := by
  subst hid
  rw [← csum_eq_sumBytes s _ (hlen.trans hp.symm)] at hsum
  have hs : sum.length = s.rxCw.bytes := by rw [hsum]; exact length_csum _ _ len p
  rw [deliverAll_frameBytes hl he hlen hp hs]
  have hlength : (frameBytes (rxId s.par.role) len p sum).length = 5 + rxLen s.par.role + s.rxCw.bytes := by
    rw [length_frameBytes, hp, hs]
  have hverdict : judge s.par.role s.rxCw (frameBytes (rxId s.par.role) len p sum) =
      .valid (rxId s.par.role) p (frameBytes (rxId s.par.role) len p sum).length := by
    rw [hlength]
    exact (judge_frameBytes hlen hp hs).trans (if_neg (not_not.mpr hsum))
  have hstart : findStart (frameBytes (rxId s.par.role) len p sum) = some 0 := findStart_pair _
  generalize frameBytes (rxId s.par.role) len p sum = bs at hverdict hstart
  have hiter : scanIter (setRxbuf bs s) = (accepted { id := rxId s.par.role, payload := p } s, true) := by
    rw [← consume_acceptFrame he bs]
    exact scanIter_valid hstart hverdict
  have hempty : (accepted { id := rxId s.par.role, payload := p } s).codec.rxbuf = [] := by
    unfold accepted
    split <;> exact he
  rw [decodeRx, scanLoop_of_continue hiter, scanLoop_empty _ hempty]

/-! ## Bytes that hold no whole frame (R209, R210) -/

/-- No frame has come out of the decoder from the one state to the other, neither accepted nor failed by its sum. -/
structure NoFrame (s t : State) : Prop where
  rxq : t.codec.rxq = s.codec.rxq
  rxOk : t.cnt.rxOk = s.cnt.rxOk
  rxCsumErr : t.cnt.rxCsumErr = s.cnt.rxCsumErr
  par : t.par = s.par
  cfg : t.ctl.cfg = s.ctl.cfg

theorem NoFrame.refl (s : State) : NoFrame s s := ⟨rfl, rfl, rfl, rfl, rfl⟩

theorem NoFrame.trans {s t u : State} (h : NoFrame s t) (h' : NoFrame t u) : NoFrame s u :=
  ⟨h'.rxq.trans h.rxq, h'.rxOk.trans h.rxOk, h'.rxCsumErr.trans h.rxCsumErr, h'.par.trans h.par, h'.cfg.trans h.cfg⟩

/-- The bytes of a frame of the role (R209, R212). -/
def wholeLength (s : State) : Nat := 5 + rxLen s.par.role + s.rxCw.bytes

theorem NoFrame.wholeLength_eq {s t : State} (h : NoFrame s t) : wholeLength t = wholeLength s := by
  simp only [wholeLength, State.rxCw, State.cwOf, State.csum16Cmd, State.csum16Tlm, h.par, h.cfg]

theorem scanIter_noFrame {s : State} (h : s.codec.rxbuf.length < wholeLength s) : NoFrame s (scanIter s).1 := by
  have hdrop : NoFrame s (Machine.discard (searchDrop s.codec.rxbuf) s) := ⟨rfl, rfl, rfl, rfl, rfl⟩
  have hshort : (Machine.discard (searchDrop s.codec.rxbuf) s).codec.rxbuf.length < wholeLength s := by
    simp only [Machine.discard, List.length_drop]; omega
  rw [← hdrop.wholeLength_eq] at hshort
  refine hdrop.trans ?_
  unfold scanIter
  generalize Machine.discard (searchDrop s.codec.rxbuf) s = t at hshort ⊢
  dsimp only
  split
  · exact .refl t
  · rcases judge_of_short hshort with hv | hv | hv <;> rw [hv] <;> exact ⟨rfl, rfl, rfl, rfl, rfl⟩

theorem scanIter_length_le (s : State) : (scanIter s).1.codec.rxbuf.length ≤ s.codec.rxbuf.length := by
  cases hc : (scanIter s).2 with
  | true => exact (scanIter_shorter s hc).le
  | false =>
    unfold scanIter at hc ⊢
    dsimp only at hc ⊢
    split_ifs at hc ⊢
    · simp [Machine.discard]
    · split at hc <;> simp_all [Machine.discard]

theorem scanLoop_length_le (n : Nat) (s : State) : (scanLoop n s).codec.rxbuf.length ≤ s.codec.rxbuf.length := by
  induction n generalizing s with
  | zero => exact le_rfl
  | succ n ih =>
    rw [scanLoop]
    split
    · exact (ih _).trans (scanIter_length_le s)
    · exact scanIter_length_le s

theorem scanLoop_noFrame (n : Nat) {s : State} (h : s.codec.rxbuf.length < wholeLength s) : NoFrame s (scanLoop n s) := by
  induction n generalizing s with
  | zero => exact .refl s
  | succ n ih =>
    have hiter := scanIter_noFrame h
    rw [scanLoop]
    split
    · exact hiter.trans (ih (hiter.wholeLength_eq ▸ (scanIter_length_le s).trans_lt h))
    · exact hiter

theorem deliver_length_le (b : Byte) (s : State) : (deliver b s).codec.rxbuf.length ≤ s.codec.rxbuf.length + 1 := by
  unfold deliver
  split
  · exact (scanLoop_length_le _ _).trans (by simp)
  · exact Nat.le_succ _

theorem deliver_noFrame {b : Byte} {s : State} (h : s.codec.rxbuf.length + 1 < wholeLength s) :
    NoFrame s (deliver b s) := by
  unfold deliver
  split
  · have happend : NoFrame s (setRxbuf (s.codec.rxbuf ++ [b]) s) := ⟨rfl, rfl, rfl, rfl, rfl⟩
    refine happend.trans (scanLoop_noFrame _ ?_)
    rw [happend.wholeLength_eq]
    simpa [setRxbuf] using h
  · exact .refl s

/-- Too few bytes for a frame leave the queue and the counts of frames alone. -/
theorem deliverAll_noFrame {bs : List Byte} {s : State} (h : s.codec.rxbuf.length + bs.length < wholeLength s) :
    NoFrame s (deliverAll bs s) := by
  induction bs generalizing s with
  | nil => exact .refl s
  | cons b bs ih =>
    rw [List.length_cons] at h
    have hb : NoFrame s (deliver b s) := deliver_noFrame (by omega)
    have hlength := deliver_length_le b s
    exact hb.trans (ih (by rw [hb.wholeLength_eq]; omega))

/-! ## Rejected frames (R209, R210) -/

/-- The scanner clears no sticky bit. -/
theorem scanLoop_sticky {s : State} (hl : s.link.state = .up) (n : Nat) {i : Nat} (hi : s.ctl.sticky.getLsbD i = true) :
    (scanLoop n s).ctl.sticky.getLsbD i = true :=
  (scanLoop_moves [] n hl).sticky (s := setRxbuf [] s) hi

theorem deliverAll_sticky (bs : List Byte) {s : State} {i : Nat} (hi : s.ctl.sticky.getLsbD i = true) :
    (deliverAll bs s).ctl.sticky.getLsbD i = true := (deliverAll_moves bs s).sticky hi

/-- A frame with a wrong checksum is reported and counted once, and nothing of it is accepted (R209, C4). -/
theorem deliverAll_wrongSum {s : State} (hl : s.link.state = .up) (he : s.codec.rxbuf = []) {id : Byte}
    (hid : id = rxId s.par.role) {len : Half} (hlen : len.toNat = rxLen s.par.role) {p sum : List Byte}
    (hp : p.length = rxLen s.par.role) (hs : sum.length = if csum16 s id then 2 else 1)
    (hne : sum ≠ sumBytes (csum16 s id) id p) :
    ∃ t, deliverAll (frameBytes id len p sum) s = t ∧ t.ctl.sticky.getLsbD 4 = true ∧
      t.cnt.rxCsumErr = s.cnt.rxCsumErr + 1#32 ∧ t.cnt.rxOk = s.cnt.rxOk ∧ t.codec.rxq = s.codec.rxq := by
  subst hid
  rw [← csum_eq_sumBytes s _ (hlen.trans hp.symm)] at hne
  rw [← cwOf_bytes] at hs
  rw [deliverAll_frameBytes hl he hlen hp hs]
  have hverdict : judge s.par.role s.rxCw (frameBytes (rxId s.par.role) len p sum) = .badSum :=
    (judge_frameBytes hlen hp hs).trans (if_pos hne)
  have hlength : (frameBytes (rxId s.par.role) len p sum).length = wholeLength s := by
    rw [length_frameBytes, hp, hs]; rfl
  have hstart : findStart (frameBytes (rxId s.par.role) len p sum) = some 0 := findStart_pair _
  generalize frameBytes (rxId s.par.role) len p sum = bs at hverdict hlength hstart
  have hiter : scanIter (setRxbuf bs s) = (rejectSum (setRxbuf bs s), true) := scanIter_badSum hstart hverdict
  have hrest : (rejectSum (setRxbuf bs s)).codec.rxbuf.length < wholeLength (rejectSum (setRxbuf bs s)) := by
    show (bs.drop 1).length < wholeLength s
    rw [List.length_drop, hlength]
    simp only [wholeLength]; omega
  have hno := scanLoop_noFrame bs.length hrest
  rw [decodeRx, scanLoop_of_continue hiter]
  exact ⟨_, rfl, scanLoop_sticky (s := rejectSum (setRxbuf bs s)) hl _ (raiseError_sticky_self .rxChecksum 0#4 _),
    hno.rxCsumErr, hno.rxOk, hno.rxq⟩

theorem decodeRx_unknownId {s : State} (hl : s.link.state = .up) {buf : List Byte} (hstart : findStart buf = some 0)
    (hverdict : judge s.par.role s.rxCw buf = .unknownId) :
    (decodeRx (setRxbuf buf s)).ctl.sticky.getLsbD 6 = true := by
  have hiter : scanIter (setRxbuf buf s) = (rejectId (setRxbuf buf s), true) := scanIter_unknownId hstart hverdict
  rw [decodeRx, scanLoop_of_continue hiter]
  exact scanLoop_sticky (s := rejectId (setRxbuf buf s)) hl _ (raiseError_sticky_self .rxUnknownId 0#4 _)

/-- The header of another MSG_ID is reported as soon as it is complete (R210, C7). -/
theorem deliverAll_otherId {s : State} (hl : s.link.state = .up) (he : s.codec.rxbuf = []) {id : Byte}
    (hid : id ≠ rxId s.par.role) (len : Half) (p sum : List Byte) :
    (deliverAll (frameBytes id len p sum) s).ctl.sticky.getLsbD 6 = true := by
  have hheader : deliverAll ([0xAA#8, 0x55#8, id] ++ be16 len) s =
      decodeRx (setRxbuf ([0xAA#8, 0x55#8, id] ++ be16 len) s) :=
    deliverAll_eq_decodeRx hl he (List.cons_ne_nil _ _) fun k h1 hk => waits_start s (id :: be16 len) h1 hk
  have hverdict : judge s.par.role s.rxCw ([0xAA#8, 0x55#8, id] ++ be16 len) = .unknownId := by
    simpa using judge_otherId hid len []
  rw [frameBytes, List.append_assoc, deliverAll_append, hheader]
  exact deliverAll_sticky _ (decodeRx_unknownId hl (findStart_pair _) hverdict)

/-! ## The two frames (R102, R103) -/

theorem length_velBytes (p : VelWire) : p.bytes.length = 8 := rfl

theorem length_tlmBytes (p : TlmWire) : p.bytes.length = 46 := by simp [TlmWire.bytes, be32, be16]

theorem length_checksum_le (ck : Checksum) : ck.encode.length ≤ 2 := by
  cases ck <;> simp [Checksum.encode, be16]

theorem exec_velCmd (p : VelWire) (ck : Checksum) (s : State) :
    exec (.velCmd p ck) s = .next (deliverAll (frameBytes 0x01#8 8#16 p.bytes ck.encode) s) := rfl

theorem exec_telemetry (p : TlmWire) (ck : Checksum) (s : State) :
    exec (.telemetry p ck) s = .next (deliverAll (frameBytes 0x02#8 46#16 p.bytes ck.encode) s) := rfl

theorem arrive_eq_deliverAll (bs : List Byte) (s : State) : arrive bs s = deliverAll bs s :=
  (deliverAll_eq_foldl bs s).symm

/-- Settles O46: the checksum decides (`deliverAll_rightSum`, `deliverAll_wrongSum`); at HOST the header is rejected, and the
frame is too short to hold one of HOST's. -/
theorem velCmdIsAccepted : Obligations.VelCmdIsAccepted := by
  refine ⟨fun s p ck hr hl he hsum => ?_, fun s p ck hr hl he hs hne => ?_, fun s p ck hr hl he => ?_,
    fun s p ck hd => ?_, fun s p ck => ?_⟩
  · rw [exec_velCmd, deliverAll_rightSum hl he (by rw [hr]; rfl) (by rw [hr]; rfl)
      (by rw [hr, length_velBytes]; rfl) hsum]
  · obtain ⟨t, ht, h⟩ := deliverAll_wrongSum hl he (id := 0x01#8) (len := 8#16) (by rw [hr]; rfl) (by rw [hr]; rfl)
      (by rw [hr, length_velBytes]; rfl) hs hne
    exact ⟨t, congrArg Host.Outcome.next ht, h⟩
  · have hck := length_checksum_le ck
    have hno : NoFrame s (deliverAll (frameBytes 0x01#8 8#16 p.bytes ck.encode) s) := deliverAll_noFrame (by
      simp only [he, length_frameBytes, length_velBytes, wholeLength, hr, rxLen, List.length_nil]; omega)
    exact ⟨_, exec_velCmd p ck s, deliverAll_otherId hl he (by rw [hr]; decide) _ _ _, hno.rxOk, hno.rxq⟩
  · rw [exec_velCmd, deliverAll_down _ s hd]
  · rw [arrive_eq_deliverAll]
    rfl

/-- Settles O47: as O46 with the roles exchanged; at CONTROLLER only the header's report is claimed. -/
theorem telemetryIsAccepted : Obligations.TelemetryIsAccepted := by
  refine ⟨fun s p ck hr hl he hsum => ?_, fun s p ck hr hl he hs hne => ?_, fun s p ck hr hl he => ?_,
    fun s p ck hd => ?_, fun s p ck => ?_⟩
  · rw [exec_telemetry, deliverAll_rightSum hl he (by rw [hr]; rfl) (by rw [hr]; rfl)
      (by rw [hr, length_tlmBytes]; rfl) hsum]
  · obtain ⟨t, ht, h⟩ := deliverAll_wrongSum hl he (id := 0x02#8) (len := 46#16) (by rw [hr]; rfl) (by rw [hr]; rfl)
      (by rw [hr, length_tlmBytes]; rfl) hs hne
    exact ⟨t, congrArg Host.Outcome.next ht, h⟩
  · exact ⟨_, exec_telemetry p ck s, deliverAll_otherId hl he (by rw [hr]; decide) _ _ _⟩
  · rw [exec_telemetry, deliverAll_down _ s hd]
  · rw [arrive_eq_deliverAll]
    rfl

/-! ## A velocity from HOST to CONTROLLER (R207, R215, R217) -/

theorem get32_first (b : Bool) (v w : Word) : get32 b (ser32 b v ++ ser32 b w) 0 = v := by
  cases b <;> exact joinBe32_be32 v

theorem length_ser32 (b : Bool) (w : Word) : (ser32 b w).length = 4 := by cases b <;> rfl

theorem get32_second (b : Bool) (v w : Word) : get32 b (ser32 b v ++ ser32 b w) 4 = w := by
  cases b <;> exact joinBe32_be32 w

/-- A HOST's TX_CMD_FRAME with finite operands and room in the queue queues its frame (R206, R207). -/
theorem exec_txCmdFrame {s : State} (hr : s.par.role = .host) (h0 : finite s.ctl.arg0 = true)
    (h1 : finite s.ctl.arg1 = true) (hl : s.link.state = .up) {f : List Byte}
    (hf : f = s.encodeFrame 0x01#8 (s.velPayload s.ctl.arg0 s.ctl.arg1)) (hroom : s.codec.txq.length + f.length ≤ 256) :
    exec .txCmdFrame s = .next (result 1#32 (queued f s)) := by
  subst hf
  have hexec : exec .txCmdFrame s = .next
      ((enqueue (s.encodeFrame 0x01#8 (s.velPayload s.ctl.arg0 s.ctl.arg1)) s).setResult
        (boolWord (s.canEnqueue (s.encodeFrame 0x01#8 (s.velPayload s.ctl.arg0 s.ctl.arg1))))) := by
    simp only [exec, execTxCmdFrame, inRole, hr, needFinite, h0, h1, if_true]
  rcases enqueue_cases (s.encodeFrame 0x01#8 (s.velPayload s.ctl.arg0 s.ctl.arg1)) s with
    ⟨hd, -, -⟩ | ⟨-, hfull, -, -⟩ | ⟨-, -, hcan, he⟩
  · exact absurd (hl.symm.trans hd) nofun
  · simp only [Config.txCap] at hfull; omega
  · rw [hexec, he, hcan]
    rfl

/-- RX_POP at a CONTROLLER takes the oldest frame's two velocities and returns 1 (R215, R217). -/
theorem exec_rxPop_controller {s : State} (hr : s.par.role = .controller) {f : Frame} {q : List Frame}
    (hq : s.codec.rxq = f :: q) :
    exec .rxPop s = .next (result 1#32 { s with
      codec := { s.codec with rxq := q }
      vel := { v := get32 s.payloadLe f.payload 0, w := get32 s.payloadLe f.payload 4, seq := s.vel.seq + 1#32 } }) := by
  simp only [exec, execRxPop, popFrame, hq, storeFrame, hr, State.rxAvail]
  rfl

/-- The velocity frame of a HOST is accepted at a CONTROLLER with the same CFG (R101, R201). -/
theorem encodeFrame_arrives {h c : State} (hrole : c.par.role = .controller) (hcfg : h.ctl.cfg = c.ctl.cfg)
    (hl : c.link.state = .up) (he : c.codec.rxbuf = []) {p : List Byte} (hp : p.length = 8) :
    deliverAll (h.encodeFrame 0x01#8 p) c = accepted { id := 0x01#8, payload := p } c := by
  have hwide : csum16 h 0x01#8 = csum16 c 0x01#8 := by simp only [csum16, hcfg]
  have hsum : csum (h.cwOf 0x01#8) 0x01#8 8#16 p = sumBytes (csum16 c 0x01#8) 0x01#8 p := by
    rw [← hwide]
    exact csum_eq_sumBytes h 0x01#8 hp.symm
  rw [State.encodeFrame, hp]
  exact deliverAll_rightSum hl he (by rw [hrole]; rfl) (by rw [hrole]; rfl) (by rw [hrole, hp]; rfl) hsum

theorem accepted_of_empty {s : State} (h : s.codec.rxq = []) (f : Frame) :
    accepted f s = { s with
      cnt := { s.cnt with rxOk := s.cnt.rxOk + 1#32 }, codec := { s.codec with rxq := [f] } } := by
  simp [accepted, h]

/-- Settles O48: the bytes HOST queues are accepted at CONTROLLER (`encodeFrame_arrives`), and the pop reads back the words
that were serialised, in the byte order both have. -/
theorem velocityArrivesBitExact : Obligations.VelocityArrivesBitExact := by
  intro h c hrh hrc hcfg h0 h1 hlh hroom hlc he hq
  obtain ⟨p, hp⟩ : ∃ p, p = h.velPayload h.ctl.arg0 h.ctl.arg1 := ⟨_, rfl⟩
  have hlen : p.length = 8 := by simp [hp, State.velPayload, length_ser32]
  have hfits : h.codec.txq.length + (h.encodeFrame 0x01#8 p).length ≤ 256 := by
    rw [State.encodeFrame, length_frameBytes, length_csum, cwOf_bytes, hlen]
    split <;> omega
  have hsend := exec_txCmdFrame hrh h0 h1 hlh (congrArg (h.encodeFrame 0x01#8) hp) hfits
  obtain ⟨d, hd⟩ : ∃ d, d = accepted { id := 0x01#8, payload := p } c := ⟨_, rfl⟩
  have harrive : deliverAll (h.encodeFrame 0x01#8 p) c = d := (encodeFrame_arrives hrc hcfg hlc he hlen).trans hd.symm
  rw [accepted_of_empty hq] at hd
  have hqueue : d.codec.rxq = [{ id := 0x01#8, payload := p }] := by rw [hd]
  have hrole : d.par.role = .controller := by rw [hd, hrc]
  have hle : d.payloadLe = h.payloadLe := by rw [hd, State.payloadLe, State.payloadLe, hcfg]
  have hpop := (congrArg (exec .rxPop) harrive).trans (exec_rxPop_controller hrole hqueue)
  refine ⟨_, _, h.encodeFrame 0x01#8 p, hsend, rfl, hpop, ?_, ?_, ?_, rfl, ?_⟩
  · show get32 d.payloadLe p 0 = h.ctl.arg0
    rw [hle, hp]
    exact get32_first _ _ _
  · show get32 d.payloadLe p 4 = h.ctl.arg1
    rw [hle, hp]
    exact get32_second _ _ _
  · simp only [result, hd]
  · simp only [result, hd, he]

end Sys2Proof.Proofs
end

section
/-! The word bus and the global commands (R122 to R124, R126): rejected writes, operand checks, NOP and SOFT_RESET. -/

namespace Sys2Proof.Proofs

open Sys2Proof Sys2Proof.Machine Sys2Proof.Spec

/-! ## Rejected writes (R122) -/

/-- CMD has no legality condition of R122: what fails there is a command word's check (R92). -/
theorem ne_cmd_of_rejects {r : Reg} {v : Word} {s : State} (h : rejects r v s = true) : r ≠ .cmd := by
  rintro rfl
  cases h

theorem writeReg_rejected {r : Reg} {v : Word} {s : State} (hp : r.present s.par.role = true)
    (hrej : rejects r v s = true) : writeReg r v s = report .cfgReject 0#4 s := by
  have hillegal : legalWrite r v s = false := by
    rw [legalWrite_eq_not_rejects, hrej]
    rfl
  rcases writeReg_cases r v s with ⟨habsent, -⟩ | ⟨-, -, e⟩ | ⟨-, hlegal, -⟩
  · exact absurd (hp.symm.trans habsent) nofun
  · exact e.trans (raiseError_eq_report _ _ _)
  · exact absurd (hlegal.symm.trans hillegal) nofun

/-- Settles O8: the access reaches the register's write (`step_write`), whose legality condition is R122's table. Taking the
access changes neither the role nor the duty bounds that the table reads. -/
theorem illegalWritesAreRejected : Obligations.IllegalWritesAreRejected := fun s addr v r hb hr hp hrej => by
  have hp' : r.present (done s).par.role = true := hp
  have hrej' : rejects r v (done s) = true := hrej
  rw [step_write hb hr (ne_cmd_of_rejects hrej), writeReg_rejected hp' hrej']

/-! ## Operand checks (R123) -/

/-- At CONTROLLER a channel operation with a channel's own field runs on that channel. -/
theorem onChannel_field {s : State} (hr : s.par.role = .controller) (c : Chan) (f : Chan → State) :
    onChannel c.field s f = f c := by
  rw [onChannel, inRole, if_pos hr, Chan.ofField_field]

/-- A command reports 0x05 when this operand is not finite, and also when a later check does so: the report is the same
whichever operand fails first. -/
theorem needFinite_eq_report {a : F32} {k : BitVec 4} {s f : State}
    (h : finite a = false ∨ f = report .argNonfinite k s) : needFinite a k s f = report .argNonfinite k s := by
  rcases needFinite_cases a k s f with ⟨ha, e⟩ | ⟨-, e⟩
  · rcases h with h | h
    · exact absurd (ha.symm.trans h) nofun
    · exact e.trans h
  · exact e.trans (raiseError_eq_report _ _ _)

theorem needFinite_of_finite {a : F32} (h : finite a = true) (k : BitVec 4) (s f : State) : needFinite a k s f = f :=
  if_pos h

theorem needRange_outside {ok : Bool} (h : ok = false) (k : BitVec 4) (s f : State) :
    needRange ok k s f = report .argRange k s := by
  rcases needRange_cases ok k s f with ⟨hok, -⟩ | ⟨-, e⟩
  · exact absurd (hok.symm.trans h) nofun
  · exact e.trans (raiseError_eq_report _ _ _)

theorem exec_setTarget_nonfinite {s : State} (hr : s.par.role = .controller) (c : Chan) (h : finite s.ctl.arg0 = false) :
    exec (.setTarget c.field) s = .next (report .argNonfinite c.field s) := by
  rw [exec, execSetTarget, onChannel_field hr, needFinite_eq_report (.inl h)]

theorem exec_pidCompute_nonfinite {s : State} (hr : s.par.role = .controller) (c : Chan)
    (h : finite s.ctl.arg0 = false ∨ finite s.ctl.arg1 = false ∨ finite s.ctl.arg2 = false) :
    exec (.pidCompute c.field) s = .next (report .argNonfinite c.field s) := by
  rw [exec, execPidCompute, onChannel_field hr]
  refine congrArg Host.Outcome.next (needFinite_eq_report (h.imp_right fun h12 => ?_))
  exact needFinite_eq_report (h12.imp_right fun h2 => needFinite_eq_report (.inl h2))

theorem exec_pidCompute_dtOutside {s : State} (hr : s.par.role = .controller) (c : Chan) (h0 : finite s.ctl.arg0 = true)
    (h1 : finite s.ctl.arg1 = true) (h2 : finite s.ctl.arg2 = true) (hdt : fgt s.ctl.arg2 0#32 = false) :
    exec (.pidCompute c.field) s = .next (report .argRange c.field s) := by
  rw [exec, execPidCompute, onChannel_field hr, needFinite_of_finite h0, needFinite_of_finite h1, needFinite_of_finite h2]
  exact congrArg Host.Outcome.next (needRange_outside hdt _ _ _)

theorem exec_txCmdFrame_nonfinite {s : State} (hr : s.par.role = .host)
    (h : finite s.ctl.arg0 = false ∨ finite s.ctl.arg1 = false) :
    exec .txCmdFrame s = .next (report .argNonfinite 0#4 s) := by
  rw [exec, execTxCmdFrame, inRole, if_pos hr]
  exact congrArg Host.Outcome.next (needFinite_eq_report (h.imp_right fun h1 => needFinite_eq_report (.inl h1)))

/-- Settles O29, one lemma for each command with operands and each of its checks. -/
theorem operandChecks : Obligations.OperandChecks :=
  ⟨fun _ c hr h => exec_setTarget_nonfinite hr c h, fun _ c hr h => exec_pidCompute_nonfinite hr c h,
    fun _ c hr h0 h1 h2 hdt => exec_pidCompute_dtOutside hr c h0 h1 h2 hdt, fun _ hr h => exec_txCmdFrame_nonfinite hr h⟩

/-! ## Global commands (R124, R126, R281) -/

/-- Settles O17: the arm of NOP answers the state it was given. -/
theorem nopChangesNothing : Obligations.NopChangesNothing := fun _ => rfl

/-- A soft reset of an encoder is `enc_reset` with the edge's timestamp renewed and `a_seen` at the synchronised level. -/
theorem softResetEnc_eq_encCleared (now : Word) (e : Enc) :
    softResetEnc now e = { encCleared now e with lastEdgeMs := now, aSeen := e.aSync2 } := rfl

/-- A soft reset of a channel is its power-on reset at `now` but for the encoder. -/
theorem softResetChan_eq_atReset (now : Word) (x : Channel) :
    softResetChan now x = { Channel.atReset now false false with
      enc := { encCleared now x.enc with lastEdgeMs := now, aSeen := x.enc.aSync2 } } := by
  rw [softResetChan, softResetEnc_eq_encCleared]
  rfl

/-- Settles O12: the channels by `softResetChan_eq_atReset`; every other field is the power-on value or is kept, as the
definition of the reset says. -/
theorem softResetResult : Obligations.SoftResetResult := fun s => by
  rw [exec, execSoftReset, softReset, softResetChan_eq_atReset, softResetChan_eq_atReset]
  rfl

end Sys2Proof.Proofs
end

section
/-! The encoder (41_encoder.md): edges (R141, R147), ENC_RESET (R145, R146), the sample window (R143) and ENC_UPDATE
(R142). -/

namespace Sys2Proof.Proofs

open Sys2Proof Sys2Proof.Machine Sys2Proof.Spec

/-! ## One edge detector (R141, R147) -/

theorem raced_iff (e : Enc) : e.raced = true ↔ ¬ cleanEdge e := by
  simp only [Enc.raced, cleanEdge, Bool.or_eq_true, bne_iff_ne, Bool.not_eq_true', Bool.and_eq_false_iff,
    beq_eq_false_iff_ne]
  tauto

/-- What a draw leaves: a counted tick, or `a_seen` alone. -/
theorem takeEdge_cases (now : Word) (d : TickDraw) (e : Enc) :
    takeEdge now d e = ticked now true e ∨ takeEdge now d e = ticked now false e ∨
      takeEdge now d e = { e with aSeen := e.aSync2 } := by
  cases d with
  | up => exact .inl rfl
  | down => exact .inr (.inl rfl)
  | uncounted => exact .inr (.inr rfl)

/-- The tick of a clean edge goes the way R141 gives. -/
theorem takeEdge_clean (now : Word) (g : ChanCfg) (e : Enc) :
    takeEdge now (if edgeUp g e then .up else .down) e =
      ticked now ((e.aSync2 == e.bSync2) ^^ g.mcfg.getLsbD 1) e := by
  rw [show ((e.aSync2 == e.bSync2) ^^ g.mcfg.getLsbD 1) = edgeUp g e from rfl]
  cases edgeUp g e <;> rfl

/-- What an edge detector at `now` may leave of the channel `x`. -/
def EdgeDetected (now : Word) (x y : Channel) : Prop :=
  y = { x with enc := y.enc } ∧
  (x.enc.aSync2 = x.enc.aSeen → y.enc = x.enc) ∧
  (x.enc.aSync2 ≠ x.enc.aSeen → cleanEdge x.enc →
    y.enc = ticked now ((x.enc.aSync2 == x.enc.bSync2) ^^ x.cfg.mcfg.getLsbD 1) x.enc) ∧
  (x.enc.aSync2 ≠ x.enc.aSeen → ¬ cleanEdge x.enc →
    y.enc = ticked now true x.enc ∨ y.enc = ticked now false x.enc ∨ y.enc = { x.enc with aSeen := x.enc.aSync2 })

/-- The detector of channel c does to it what R141 says. -/
theorem edgeDetect_detected (c : Chan) (s : State) : EdgeDetected s.clk.timeMs (s.ch c) ((edgeDetect c s).ch c) := by
  have hself : ∀ e : Enc, (s.setEnc c e).ch c = { s.ch c with enc := e } := fun e => s.ch_setCh c _
  rcases edgeDetect_cases c s with ⟨hno, e⟩ | ⟨hedge, hraced, e⟩ | ⟨hedge, hclean, e⟩
  · rw [e]
    exact ⟨rfl, fun _ => rfl, fun h => absurd hno h, fun h => absurd hno h⟩
  · have hch : (edgeDetect c s).ch c =
        { s.ch c with enc := takeEdge s.now (Config.tickDraw s.freeCtr) (s.ch c).enc } := by
      rw [e, ← hself]
      cases c <;> rfl
    rw [hch]
    exact ⟨rfl, fun h => absurd h hedge, fun _ h => absurd h ((raced_iff _).mp hraced), fun _ _ => takeEdge_cases _ _ _⟩
  · rw [e, hself]
    refine ⟨rfl, fun h => absurd h hedge, fun _ _ => takeEdge_clean _ _ _, fun _ h => ?_⟩
    exact absurd (hclean.symm.trans ((raced_iff _).mpr h)) nofun

theorem edgeDetect_ch_ne {c d : Chan} (h : d ≠ c) (s : State) : (edgeDetect c s).ch d = s.ch d := by
  rcases edgeDetect_cases c s with ⟨-, e⟩ | ⟨-, -, e⟩ | ⟨-, -, e⟩
  · rw [e]
  · rw [e, ← s.setEnc_ch_ne (takeEdge s.now (Config.tickDraw s.freeCtr) (s.ch c).enc) h]
    cases d <;> rfl
  · rw [e, s.setEnc_ch_ne _ h]

/-- A detector writes nothing but the channels and the free counter (log 9). -/
theorem edgeDetect_frame (c : Chan) (s : State) :
    edgeDetect c s =
      { s with ch0 := (edgeDetect c s).ch0, ch1 := (edgeDetect c s).ch1, freeCtr := (edgeDetect c s).freeCtr } := by
  rcases edgeDetect_cases c s with ⟨-, e⟩ | ⟨-, -, e⟩ | ⟨-, -, e⟩ <;> rw [e] <;> cases c <;> rfl

/-! ## The encoders' phase (R80, R4) -/

theorem step_enc {s : State} (h : s.phase = .enc) : step s = .next (encPhase s) := by simp [step, h]

theorem encPhase_host {s : State} (hr : s.par.role = .host) : encPhase s = { s with phase := .rx } := by
  rw [encPhase, hr, if_neg nofun]

theorem encPhase_controller {s : State} (hr : s.par.role = .controller) :
    encPhase s = { edgeDetect .c1 (edgeDetect .c0 s) with phase := .rx } := by
  rw [encPhase, if_pos hr]

/-- Neither detector reads what the other one writes. -/
theorem encPhase_detected {s : State} (hr : s.par.role = .controller) (c : Chan) :
    EdgeDetected s.clk.timeMs (s.ch c) ((encPhase s).ch c) := by
  rw [encPhase_controller hr]
  cases c with
  | c0 =>
    have h := edgeDetect_detected .c0 s
    rwa [← edgeDetect_ch_ne (show Chan.c0 ≠ .c1 by decide) (edgeDetect .c0 s)] at h
  | c1 =>
    have h := edgeDetect_detected .c1 (edgeDetect .c0 s)
    have hclk : (edgeDetect .c0 s).clk = s.clk := by rw [edgeDetect_frame]
    rwa [edgeDetect_ch_ne (show Chan.c1 ≠ .c0 by decide), hclk] at h

theorem encPhase_frame {s : State} (hr : s.par.role = .controller) :
    encPhase s = { s with
      ch0 := (encPhase s).ch0, ch1 := (encPhase s).ch1, freeCtr := (encPhase s).freeCtr, phase := .rx } := by
  rw [encPhase_controller hr, edgeDetect_frame .c1, edgeDetect_frame .c0]

/-- Settles O21: the phase runs the two detectors one after the other (`encPhase_detected`), and they write nothing but
the encoders and the free counter (`encPhase_frame`). -/
theorem edgesCountTicks : Obligations.EdgesCountTicks :=
  ⟨fun _ hp hr => (step_enc hp).trans (congrArg _ (encPhase_host hr)),
    fun s hp hr => ⟨encPhase s, step_enc hp, encPhase_frame hr, encPhase_detected hr⟩⟩

/-! ## ENC_RESET (R145, R146) -/

/-- Settles O22: at CONTROLLER the command runs on its channel, where `enc_reset` is R146's assignments. -/
theorem encResetResult : Obligations.EncResetResult := fun s c hr => by
  refine ⟨?_, ?_⟩
  · rw [encode]
    cases c <;> decide
  · rw [exec, execEncReset, onChannel_field hr]
    rfl

/-! ## The window (R143) -/

/-- What an append keeps of the window: all but the oldest sample of a full one. -/
def keptSamples (w : List Sample) : List Sample := if w.length = Config.winCap then w.tail else w

theorem windowAppend_eq (w : List Sample) (x : Sample) : windowAppend w x = keptSamples w ++ [x] := by
  rw [windowAppend, List.drop_one]
  rfl

theorem keptSamples_suffix (w : List Sample) : keptSamples w <:+ w := by
  unfold keptSamples
  split
  · exact List.tail_suffix w
  · exact List.suffix_rfl

theorem length_keptSamples {w : List Sample} (h : w.length ≤ Config.winCap) : (keptSamples w).length ≤ 31 := by
  unfold keptSamples
  split_ifs with hfull
  · rw [List.length_tail]
    exact Nat.sub_le_of_le_add h
  · exact Nat.le_of_lt_succ (lt_of_le_of_ne h hfull)

theorem windowEvict_suffix (now windowMs : Word) (w : List Sample) : windowEvict now windowMs w <:+ w :=
  List.dropWhile_suffix _

/-- A window that ends with a sample of this instant keeps it. -/
theorem windowEvict_append_fresh (now windowMs : Word) (w : List Sample) {x : Sample} (hx : x.ts = now) :
    windowEvict now windowMs (w ++ [x]) = windowEvict now windowMs w ++ [x] := by
  have hfresh : windowEvict now windowMs [x] = [x] := List.dropWhile_cons_of_neg (by simp [hx])
  rw [windowEvict, List.dropWhile_append]
  split_ifs with h
  · rw [windowEvict, List.isEmpty_iff.mp h]
    exact hfresh
  · rfl

theorem age_of_head?_windowEvict {now windowMs : Word} {w : List Sample} {x : Sample}
    (h : (windowEvict now windowMs w).head? = some x) : (now - x.ts).toNat ≤ windowMs.toNat := by
  have hnot := List.head?_dropWhile_not (fun x : Sample => decide ((now - x.ts).toNat > windowMs.toNat)) w
  rw [← windowEvict, h] at hnot
  exact Nat.le_of_not_lt (of_decide_eq_false hnot)

theorem windowEvict_eq_nil {now windowMs : Word} {w : List Sample} (h : ∀ x ∈ w, windowMs.toNat < (now - x.ts).toNat) :
    windowEvict now windowMs w = [] :=
  List.dropWhile_eq_nil_iff.mpr fun x hx => decide_eq_true (h x hx)

/-! ## ENC_UPDATE (R142) -/

/-- Before MIN_INTERVAL_MS has passed a refresh changes nothing. -/
theorem refreshed_early {now : Word} {g : ChanCfg} {e : Enc} (h : (now - e.lastUpdMs).toNat < g.minIntervalMs.toNat) :
    refreshed now g e = e := if_pos h

/-- From then on it is the model's sample. -/
theorem refreshed_due {now : Word} {g : ChanCfg} {e : Enc} (h : g.minIntervalMs.toNat ≤ (now - e.lastUpdMs).toNat) :
    refreshed now g e = sampleEnc now g e := by
  rw [refreshed, if_neg h.not_gt, sampleEnc, sampledWindow, windowAppend_eq]
  rfl

/-- `enc_update` refreshes the encoder of its channel and nothing else. -/
theorem encUpdate_eq_refreshed (c : Chan) (s : State) :
    encUpdate c s = s.setCh c { s.ch c with enc := refreshed s.clk.timeMs (s.ch c).cfg (s.ch c).enc } := by
  rcases encUpdate_cases c s with ⟨hdue, e⟩ | ⟨hearly, e⟩
  · rw [e, refreshed_due (of_decide_eq_true hdue)]
    rfl
  · rw [e, refreshed_early (Nat.lt_of_not_le (of_decide_eq_false hearly))]
    exact (s.setCh_ch c).symm

/-- Settles O23: the refresh is R142's (`encUpdate_eq_refreshed`), and the RPM returned is the one it leaves. -/
theorem encUpdateResult : Obligations.EncUpdateResult := fun s c hr => by
  rw [exec, execEncUpdate, onChannel_field hr, encUpdate_eq_refreshed, State.ch_setCh]
  rfl

/-- Settles O24: the old samples left are those kept by the append and then not evicted. -/
theorem windowIsMaintained : Obligations.WindowIsMaintained := fun now g e hlen hdue => by
  rw [refreshed_due hdue]
  have hleft := windowEvict_suffix now g.windowMs (keptSamples e.win)
  refine ⟨windowEvict now g.windowMs (keptSamples e.win), ?_, hleft.trans (keptSamples_suffix _),
    hleft.length_le.trans (length_keptSamples hlen), fun _ => age_of_head?_windowEvict, fun hold => ?_, rfl⟩
  · rw [sampleEnc, sampledWindow, windowAppend_eq]
    exact windowEvict_append_fresh _ _ _ rfl
  · exact windowEvict_eq_nil fun x hx => hold x ((keptSamples_suffix _).subset hx)

end Sys2Proof.Proofs
end

section
/-! The RPM of a window is finite (R144): how far one rounding of R14 can move a value, and from that the size of the
turns, of the minutes and of their quotient. -/

namespace Sys2Proof.Proofs

open Sys2Proof Sys2Proof.Machine Sys2Proof.Spec

/-! ## Bounds of a rounded value (R14) -/

theorem isFiniteEnc_fZero : isFiniteEnc fZero := (finite_iff _).mp (by decide)

theorem isFiniteEnc_fOne : isFiniteEnc fOne := (finite_iff _).mp (by decide)

/-- The nearest encoding of a number well below the largest finite value is finite, and at most twice as large: 0 is an
encoding, and no farther from the number than the number's own size. -/
theorem nearest_bounded {x : ℚ} {r : F32} (h : Nearest x r) (hx : |x| ≤ 2 ^ 126) :
    isFiniteEnc r ∧ |exact r| ≤ 2 * |x| := by
  obtain ⟨-, hfin⟩ := h
  obtain ⟨hf, -, hnear⟩ := hfin (hx.trans_lt (by norm_num))
  have hzero := (hnear fZero isFiniteEnc_fZero).1
  rw [exact_fZero, zero_sub, abs_neg] at hzero
  have htri := abs_sub_abs_le_abs_sub (exact r) x
  exact ⟨hf, by linarith⟩

/-- Rounding does not cross an encoding below. -/
theorem nearest_ge {x : ℚ} {r b : F32} (h : Nearest x r) (hx : |x| ≤ 2 ^ 126) (hb : isFiniteEnc b)
    (hle : exact b ≤ x) : exact b ≤ exact r := by
  obtain ⟨-, hfin⟩ := h
  obtain ⟨-, -, hnear⟩ := hfin (hx.trans_lt (by norm_num))
  have hnearer := (hnear b hb).1
  rw [abs_of_nonpos (sub_nonpos.mpr hle)] at hnearer
  linarith [neg_abs_le (exact r - x)]

theorem f32OfInt_bounded {n : ℤ} (hn : |(n : ℚ)| ≤ 2 ^ 126) :
    isFiniteEnc (f32OfInt n) ∧ |exact (f32OfInt n)| ≤ 2 * |(n : ℚ)| := by
  by_cases h0 : n = 0
  · rw [h0, f32OfInt_zero]
    exact ⟨isFiniteEnc_fZero, by rw [show (0#32 : F32) = fZero from rfl, exact_fZero]; simp⟩
  · exact nearest_bounded (f32OfInt_nearest h0) hn

theorem one_le_f32OfInt {n : ℤ} (h1 : 1 ≤ n) (hn : |(n : ℚ)| ≤ 2 ^ 126) : 1 ≤ exact (f32OfInt n) := by
  rw [← exact_fOne]
  refine nearest_ge (f32OfInt_nearest (by omega)) hn isFiniteEnc_fOne ?_
  rw [exact_fOne]
  exact_mod_cast h1

theorem fdiv_bounded {a b : F32} (ha : isFiniteEnc a) (hb : isFiniteEnc b) (h0 : exact b ≠ 0)
    (hq : |exact a / exact b| ≤ 2 ^ 126) :
    isFiniteEnc (fdiv a b) ∧ |exact (fdiv a b)| ≤ 2 * |exact a / exact b| := by
  obtain ⟨-, -, -, -, -, hdiv⟩ := divIsIeee a b
  obtain ⟨hnear, hzero⟩ := hdiv ha hb h0
  by_cases ha0 : exact a = 0
  · have hexact : exact (fdiv a b) = 0 := by
      rw [hzero ha0, signedZero_eq, exact_fPack _ (by norm_num), magVal_zero]
      simp
    exact ⟨isFiniteEnc_of_abs_exact_lt (by rw [hexact]; norm_num), by rw [hexact, ha0]; simp⟩
  · exact nearest_bounded (hnear ha0) hq

/-- Rounding a quotient does not cross a positive encoding below it. -/
theorem fdiv_ge_of_finite {a b c : F32} (ha : isFiniteEnc a) (hb : isFiniteEnc b) (h0 : exact b ≠ 0)
    (hq : |exact a / exact b| ≤ 2 ^ 126) (hc : isFiniteEnc c) (hpos : 0 < exact c) (hle : exact c ≤ exact a / exact b) :
    exact c ≤ exact (fdiv a b) := by
  obtain ⟨-, -, -, -, -, hdiv⟩ := divIsIeee a b
  have ha0 : exact a ≠ 0 := by
    intro h
    rw [h, zero_div] at hle
    exact absurd hpos hle.not_gt
  exact nearest_ge ((hdiv ha hb h0).1 ha0) hq hc hle

/-! ## The RPM of a window (R144) -/

theorem abs_windowTicks_le {w : List Sample} (hlen : w.length ≤ 32) (hd : ∀ x ∈ w, -2 ^ 31 ≤ x.d ∧ x.d < 2 ^ 31) :
    |(windowTicks w : ℚ)| ≤ 2 ^ 36 := by
  have hupper := List.sum_le_card_nsmul (w.map Sample.d) (2 ^ 31) (List.forall_mem_map.mpr fun x hx => (hd x hx).2.le)
  have hlower := List.card_nsmul_le_sum (w.map Sample.d) (-2 ^ 31) (List.forall_mem_map.mpr fun x hx => (hd x hx).1)
  rw [List.length_map, nsmul_eq_mul] at hupper hlower
  rw [← Int.cast_abs]
  have habs : |windowTicks w| ≤ 2 ^ 36 := abs_le.mpr ⟨by unfold windowTicks; omega, by unfold windowTicks; omega⟩
  exact_mod_cast habs

theorem windowTime_le {w : List Sample} (hlen : w.length ≤ 32) : windowTime w ≤ 2 ^ 37 := by
  have h := List.sum_le_card_nsmul (w.map fun x => x.dt.toNat) (2 ^ 32)
    (List.forall_mem_map.mpr fun x _ => x.dt.isLt.le)
  rw [List.length_map, smul_eq_mul] at h
  unfold windowTime
  omega

/-- The ticks in turns: a tick is at most a turn. -/
theorem turns_bounded {n : ℤ} (hn : |(n : ℚ)| ≤ 2 ^ 36) {tpr : Word} (htpr : tpr ≠ 0#32) :
    isFiniteEnc (fdiv (f32OfInt n) (f32OfInt tpr.toNat)) ∧
      |exact (fdiv (f32OfInt n) (f32OfInt tpr.toNat))| ≤ 2 ^ 38 := by
  have htprQ : |((tpr.toNat : ℤ) : ℚ)| ≤ 2 ^ 126 := by
    have hlt : (tpr.toNat : ℚ) < 2 ^ 32 := by exact_mod_cast tpr.isLt
    rw [Int.cast_natCast, Nat.abs_cast]
    linarith
  have hpos : 0 < tpr.toNat := Nat.pos_of_ne_zero fun h => htpr (BitVec.eq_of_toNat_eq h)
  have h1 := one_le_f32OfInt (show (1 : ℤ) ≤ tpr.toNat by omega) htprQ
  obtain ⟨htf, -⟩ := f32OfInt_bounded htprQ
  obtain ⟨hnf, hnb⟩ := f32OfInt_bounded (hn.trans (by norm_num))
  have hq : |exact (f32OfInt n) / exact (f32OfInt tpr.toNat)| ≤ 2 ^ 37 := by
    rw [abs_div, abs_of_pos (by linarith : 0 < exact (f32OfInt tpr.toNat))]
    exact (div_le_self (abs_nonneg _) h1).trans (by linarith)
  obtain ⟨hf, hb⟩ := fdiv_bounded hnf htf (by linarith) (hq.trans (by norm_num))
  exact ⟨hf, by linarith⟩

theorem exact_fSixtyThousand : exact fSixtyThousand = 60000 := by
  norm_num [exact, magBits, fSixtyThousand, show (0x476A6000#32 : BitVec 32)[31] = false from rfl]

/-- The encoding of 2^-16. -/
theorem exact_twoPowNeg16 : exact (0x37800000#32 : F32) = 1 / 2 ^ 16 := by
  norm_num [exact, magBits, show (0x37800000#32 : BitVec 32)[31] = false by decide]

/-- The interval in minutes: a millisecond is more than 2^-16 minutes. -/
theorem minutes_bounded {t : Nat} (h1 : 1 ≤ t) (ht : t ≤ 2 ^ 37) :
    isFiniteEnc (fdiv (f32OfInt t) fSixtyThousand) ∧ 1 / 2 ^ 16 ≤ exact (fdiv (f32OfInt t) fSixtyThousand) := by
  have htQ : |((t : ℤ) : ℚ)| ≤ 2 ^ 37 := by
    rw [Int.cast_natCast, Nat.abs_cast]
    exact_mod_cast ht
  obtain ⟨htf, htb⟩ := f32OfInt_bounded (htQ.trans (by norm_num))
  have hge := one_le_f32OfInt (show (1 : ℤ) ≤ t by omega) (htQ.trans (by norm_num))
  have hle := le_of_abs_le htb
  have hden : isFiniteEnc fSixtyThousand := (finite_iff _).mp (by decide)
  have hne : exact fSixtyThousand ≠ 0 := by rw [exact_fSixtyThousand]; norm_num
  have hq : |exact (f32OfInt t) / exact fSixtyThousand| ≤ 2 ^ 126 := by
    rw [exact_fSixtyThousand, abs_of_pos (by positivity), div_le_iff₀ (by norm_num)]
    linarith
  have hstep := exact_twoPowNeg16
  refine ⟨(fdiv_bounded htf hden hne hq).1, ?_⟩
  rw [← hstep]
  refine fdiv_ge_of_finite htf hden hne hq ((finite_iff _).mp (by decide)) (by rw [hstep]; norm_num) ?_
  rw [hstep, exact_fSixtyThousand, le_div_iff₀ (by norm_num)]
  linarith

/-- Settles O25: at most 2^38 turns in at least 2^-16 minutes, so a quotient of at most 2^54. -/
theorem rpmIsFinite : Obligations.RpmIsFinite := fun tpr w htpr hlen hd => by
  unfold windowRpm
  split_ifs with htime
  · decide
  · obtain ⟨hnf, hnb⟩ := turns_bounded (abs_windowTicks_le hlen hd) htpr
    obtain ⟨hdf, hdb⟩ := minutes_bounded (Nat.pos_of_ne_zero htime) (windowTime_le hlen)
    generalize fdiv (f32OfInt (windowTicks w)) _ = turns at *
    generalize fdiv (f32OfInt (windowTime w)) _ = minutes at *
    have hpos : 0 < exact minutes := hdb.trans_lt' (by norm_num)
    refine (finite_iff _).mpr (fdiv_bounded hnf hdf hpos.ne' ?_).1
    rw [abs_div, abs_of_pos hpos, div_le_iff₀ hpos]
    linarith

end Sys2Proof.Proofs
end

section
/-! The control law (42_pid.md): the law of R161 computes the duty and the state that the model stores, and its two commands,
PID_COMPUTE (R168) and PID_RESET (R169); and a duty lies within its bounds (R172). -/

namespace Sys2Proof.Proofs

open Sys2Proof Sys2Proof.Machine Sys2Proof.Spec

/-! ## PID_RESET (R169, R170) -/

theorem pidReset_eq_pidCleared (c : Chan) (s : State) :
    pidReset c s = s.setCh c { s.ch c with pid := pidCleared (s.ch c).pid } := rfl

/-- Settles O26: at CONTROLLER the command runs on its channel, where `pid_reset` is R170's assignments. -/
theorem pidResetResult : Obligations.PidResetResult := fun s c hr => by
  refine ⟨?_, ?_⟩
  · rw [encode]
    cases c <;> decide
  · rw [exec, execPidReset, onChannel_field hr, pidReset_eq_pidCleared]

/-! ## The law (R161) -/

section
variable (g : ChanCfg) (p : Pid) (target current dt : F32)

/-- The gate and the clamp of the integral are MCFG's bits 3 and 2 (R162). -/
theorem law_i : (law g p target current dt).i = pidIntegral g p (fsub target current) dt := by
  have hgate : (g.mcfg.getLsbD 3 = false ∨ flt (fabs (fsub target current)) g.iErrBound = true) ↔
      (!g.iGateEn || flt (fabs (fsub target current)) g.iErrBound) = true := by
    rw [Bool.or_eq_true, Bool.not_eq_true', ChanCfg.iGateEn]
  simp only [law, pidIntegral, hgate]
  rfl

/-- From the integral on, the law is the model's raw value, slew limit and output clamp (R163 to R166). -/
theorem law_out : (law g p target current dt).out = pidOut g p target current dt := by
  rw [pidOut, ← law_i]
  rfl

/-- What an evaluation stores is the law's integral, error and duty, with the saturation bits of that duty. -/
theorem pidStored_eq_law : pidStored g p target current dt =
    { integral := (law g p target current dt).i
      lastErr := (law g p target current dt).e
      lastOut := (law g p target current dt).out
      satMin := feq (law g p target current dt).out g.dutyMin
      satMax := feq (law g p target current dt).out g.dutyMax
      numFault := false } := by
  rw [law_i, law_out]
  rfl

end

/-! ## One evaluation (R161, R167) -/

section
variable {s : State} {c : Chan} {target current dt : F32}

theorem pidFaults_eq_isnan_law :
    s.pidFaults c target current dt = isnan (law (s.ch c).cfg (s.ch c).pid target current dt).out := by
  rw [law_out, State.pidFaults]

/-- The sticky bit of a channel's saturation, by its mask. -/
theorem setSticky_satBit (c : Chan) (s : State) :
    s.setSticky (16 + c.index) = { s with ctl := { s.ctl with sticky := stickyOr s (16 + c.index) } } := by
  cases c <;> rfl

/-- Without a fault: the law's registers, the bits of MSTAT, and SATc of STATUS. -/
theorem pidEval_eq_evaluated (h : s.pidFaults c target current dt = false) :
    pidEval c target current dt s = evaluated c target current dt s := by
  rcases pidEval_cases c target current dt s with ⟨hf, -⟩ | ⟨-, sat, hsat, e⟩
  · exact absurd (hf.symm.trans h) nofun
  · rw [pidStored_eq_law] at hsat e
    rw [e, evaluated, ← hsat]
    cases sat with
    | true => rw [if_pos rfl, setSticky_satBit]; cases c <;> rfl
    | false => cases c <;> rfl

theorem pidEval_eq_lawFaulted (h : s.pidFaults c target current dt = true) :
    pidEval c target current dt s = lawFaulted c s := by
  rcases pidEval_cases c target current dt s with ⟨-, e⟩ | ⟨hok, -⟩
  · rw [e, numFault, raiseError_eq_report]
    rfl
  · exact absurd (hok.symm.trans h) nofun

end

/-! ## PID_COMPUTE (R168) -/

/-- Operands that pass R168's checks reach the evaluation. -/
theorem exec_pidCompute {s : State} (hr : s.par.role = .controller) (c : Chan) (h0 : finite s.ctl.arg0 = true)
    (h1 : finite s.ctl.arg1 = true) (h2 : finite s.ctl.arg2 = true) (hdt : fgt s.ctl.arg2 0#32 = true) :
    exec (.pidCompute c.field) s = .next (pidCompute c s) := by
  rw [exec, execPidCompute, onChannel_field hr, needFinite_of_finite h0, needFinite_of_finite h1, needFinite_of_finite h2]
  exact congrArg Host.Outcome.next (if_pos hdt)

/-- Settles O27: checked operands reach the evaluation (`exec_pidCompute`), which stores what the law computes
(`pidEval_eq_evaluated`). -/
theorem pidComputeResult : Obligations.PidComputeResult := fun s c hr h0 h1 h2 hdt hout => by
  rw [← pidFaults_eq_isnan_law] at hout
  rw [exec_pidCompute hr c h0 h1 h2 hdt, pidCompute, pidEval_eq_evaluated hout, hout, law_out]
  rfl

/-- Settles O28: checked operands reach the evaluation (`exec_pidCompute`), which faults (`pidEval_eq_lawFaulted`). -/
theorem pidComputeFaults : Obligations.PidComputeFaults := fun s c hr h0 h1 h2 hdt hout => by
  rw [← pidFaults_eq_isnan_law] at hout
  rw [exec_pidCompute hr c h0 h1 h2 hdt, pidCompute, pidEval_eq_lawFaulted hout, hout]
  rfl

/-! ## The bounds of a duty (R172) -/

theorem flt_self (a : F32) : flt a a = false := by simp [flt]

/-- A clamp with its bounds in order is not below the lower one and not above the upper one. -/
theorem fclamp_between (x : F32) {lo hi : F32} (h : fgt lo hi = false) :
    flt (fclamp x lo hi) lo = false ∧ fgt (fclamp x lo hi) hi = false := by
  rcases fclamp_cases x lo hi with ⟨-, e⟩ | ⟨-, -, e⟩ | ⟨hlo, hhi, e⟩ <;> rw [e]
  · exact ⟨flt_self lo, h⟩
  · exact ⟨h, flt_self hi⟩
  · exact ⟨hlo, hhi⟩

theorem dutyBounds_ordered {g : ChanCfg} (hg : g.legal = true) : fgt g.dutyMin g.dutyMax = false := by
  have hr := limitsInRange_of_legal hg
  exact (flt_false_iff (not_isnan_of_finite hr.max_finite) (not_isnan_of_finite hr.min_finite)).mpr hr.min_le_max

/-- An evaluation stores the duty it returns, and +0 when it faults. -/
theorem pidEval_lastOut (c : Chan) (target current dt : F32) (s : State) :
    ((pidEval c target current dt s).ch c).pid.lastOut =
      if s.pidFaults c target current dt then 0#32 else pidOut (s.ch c).cfg (s.ch c).pid target current dt := by
  rcases pidEval_cases c target current dt s with ⟨hf, e⟩ | ⟨hok, sat, -, e⟩
  · rw [e, hf, numFault, raiseError_ch, State.setPid_ch_pid]
    rfl
  · rw [e, hok]
    cases sat with
    | true => rw [if_pos rfl, State.setSticky_ch, State.setPid_ch_pid]; rfl
    | false => rw [if_neg nofun, State.setPid_ch_pid]; rfl

/-- Settles O30: the output clamp is the last operation of the law, its bounds are in order (`fclamp_between`) and lie in
[0, 1] (`inDuty_fclamp`), and what is stored is what it gives (`pidEval_lastOut`). -/
theorem dutyStaysInBounds : Obligations.DutyStaysInBounds := fun s c target current dt hg => by
  refine ⟨fun hok => ?_, fun hf => by rw [pidEval_lastOut, hf]; rfl, ?_⟩
  · obtain ⟨hmin, hmax⟩ := fclamp_between _ (dutyBounds_ordered hg)
    exact ⟨hmin, hmax, inDuty_fclamp hg hok, by rw [pidEval_lastOut, hok]; rfl⟩
  · rw [pidReset, State.setPid_ch_pid]
    rfl

end Sys2Proof.Proofs
end

section
/-! The motor loop (43_motor_loop.md): SET_TARGET (R180 to R182), BRAKE (R186) and STEP (R183 to R185, R189). -/

namespace Sys2Proof.Proofs

open Sys2Proof Sys2Proof.Machine Sys2Proof.Spec

/-! ## Zeros and signs (R13, R14) -/

theorem fKey_eq (a : F32) : fKey a = if fSign a then -(magBits a : ℤ) else magBits a := by
  have hlow : (a.extractLsb' 0 31).toNat = magBits a := by simp [magBits]
  rw [fKey, hlow]

theorem magBits_fabs (a : F32) : magBits (fabs a) = magBits a := by
  have hlow : ∀ x : F32, magBits x = (x.setWidth 31).toNat := fun x => by simp [magBits]
  rw [hlow, hlow, fabs, BitVec.setWidth_and]
  exact congrArg BitVec.toNat BitVec.and_allOnes

theorem magBits_eq_zero_iff (a : F32) : magBits a = 0 ↔ a = 0#32 ∨ a = 0x80000000#32 := by
  constructor
  · intro h
    cases hs : a.getLsbD 31 with
    | false => exact .inl (eq_of_parts hs h)
    | true => exact .inr (eq_of_parts hs h)
  · rintro (rfl | rfl) <;> rfl

/-- A target is a zero target exactly when it is one of the two zeros (R180). -/
theorem feq_fabs_fZero_iff {a : F32} (ha : finite a = true) :
    feq (fabs a) fZero = true ↔ a = 0#32 ∨ a = 0x80000000#32 := by
  have hn : isnan (fabs a) = false := isnan_of_finite ((finite_fabs a).trans ha)
  have hk : fKey (fabs a) = magBits a := by rw [fKey_eq, fSign_fabs, magBits_fabs]; rfl
  rw [← magBits_eq_zero_iff, feq, hn, hk, show isnan fZero = false from rfl, show fKey fZero = 0 from rfl]
  simp

/-- A nonzero finite value is below +0 exactly when its sign bit is set (R180). -/
theorem flt_fZero_eq_sign {a : F32} (ha : finite a = true) (h0 : a ≠ 0#32) (hneg0 : a ≠ 0x80000000#32) :
    flt a fZero = a.getLsbD 31 := by
  have hpos : 0 < magBits a := Nat.pos_of_ne_zero fun h => ((magBits_eq_zero_iff a).mp h).elim h0 hneg0
  rw [flt, isnan_of_finite ha, fKey_eq, show isnan fZero = false from rfl, show fKey fZero = 0 from rfl, fSign]
  cases a.getLsbD 31 <;> simp [hpos]

/-! ## Stopping and driving a channel (R180 to R182, R186, R187) -/

theorem encReset_eq_encCleared (c : Chan) (s : State) :
    encReset c s = s.setCh c { s.ch c with enc := encCleared s.clk.timeMs (s.ch c).enc } := rfl

theorem active_eq (m : Motor) : m.active = !feq m.target 0#32 := rfl

/-- Going to the stopped state is R180's and R187's assignments, with the encoder reset of R182. -/
theorem stopChannel_eq_chanStopped (c : Chan) (s : State) :
    stopChannel c s = s.setCh c (chanStopped s.clk.timeMs (s.ch c)) := by
  have hstop : pidReset c (zeroOutput c (s.setMot c { (s.ch c).mot with target := fZero })) =
      s.setCh c { s.ch c with mot := motorStopped (s.ch c).mot, pid := pidCleared (s.ch c).pid } := by
    simp [pidReset_eq_pidCleared, zeroOutput, State.setMot, zeroMotor, motorStopped, fZero]
  rw [stopChannel]
  dsimp only
  rw [hstop, active_eq, chanStopped]
  cases feq (s.ch c).mot.target 0#32 with
  | true => rfl
  | false => simp [encReset_eq_encCleared]

/-- Arming resets the law and the encoder and stamps the step (R181). -/
theorem armChannel_eq (c : Chan) (s : State) :
    armChannel c s = s.setCh c { s.ch c with
      pid := pidCleared (s.ch c).pid
      enc := encCleared s.clk.timeMs (s.ch c).enc
      mot := { (s.ch c).mot with lastStepMs := s.clk.timeMs } } := by
  simp [armChannel, pidReset_eq_pidCleared, encReset_eq_encCleared, State.setMot, State.now]

/-- SET_TARGET at CONTROLLER with a finite operand reaches its effect. -/
theorem exec_setTarget {s : State} (hr : s.par.role = .controller) (c : Chan) (h0 : finite s.ctl.arg0 = true) :
    exec (.setTarget c.field) s = .next (setTarget c s.ctl.arg0 s) := by
  rw [exec, execSetTarget, onChannel_field hr, needFinite_of_finite h0]

/-- Settles O32: both zeros are zero targets (`feq_fabs_fZero_iff`), which stop the channel (`stopChannel_eq_chanStopped`). -/
theorem setTargetStops : Obligations.SetTargetStops := fun s c hr hz => by
  have hfin : finite s.ctl.arg0 = true := by rcases hz with h | h <;> rw [h] <;> rfl
  rw [exec_setTarget hr c hfin, setTarget, if_pos ((feq_fabs_fZero_iff hfin).mpr hz), stopChannel_eq_chanStopped]

/-- Settles O33: a target that is neither zero drives the channel, after arming it (`armChannel_eq`) when it was stopped. -/
theorem setTargetDrives : Obligations.SetTargetDrives := fun s c hr hfin h0 hneg0 => by
  have hnz : ¬ feq (fabs s.ctl.arg0) fZero = true := fun h => ((feq_fabs_fZero_iff hfin).mp h).elim h0 hneg0
  rw [exec_setTarget hr c hfin, setTarget, if_neg hnz, driveChannel, flt_fZero_eq_sign hfin h0 hneg0, active_eq]
  cases hstopped : feq (s.ch c).mot.target 0#32 with
  | true => simp [hstopped, armChannel_eq, State.setMot, fabs]
  | false => simp [hstopped, State.setMot, fabs]

/-- Settles O37: a zero target's stop (`stopChannel_eq_chanStopped`), then the brake. -/
theorem brakeResult : Obligations.BrakeResult := fun s c hr => by
  rw [exec, execBrake, onChannel_field hr, brakeChannel, stopChannel_eq_chanStopped]
  simp [State.setMot, chanStopped]

/-! ## STEP (R183 to R185, R189) -/

theorem stepDue_iff_stepRuns (c : Chan) (s : State) : s.stepDue c = true ↔ stepRuns c s := by
  rw [State.stepDue, stepRuns, Bool.and_eq_true, decide_eq_true_iff, active_eq, Bool.not_eq_true']
  rfl

theorem exec_step {s : State} (hr : s.par.role = .controller) (c : Chan) :
    exec (.step c.field) s = .next (stepChannel c s) := by
  rw [exec, execStep, onChannel_field hr]

/-- Settles O34: the rate gate is the model's (`stepDue_iff_stepRuns`). -/
theorem stepIsSkipped : Obligations.StepIsSkipped := fun s c hr hskip => by
  rw [exec_step hr, stepChannel, if_neg (mt (stepDue_iff_stepRuns c s).mp hskip)]
  rfl

/-- The state in which a step evaluates the law: the encoder is refreshed (R183). -/
def stepSampled (c : Chan) (s : State) : State := s.setCh c { s.ch c with enc := stepEnc c s }

/-- The state a step's evaluation of the law leaves (R183). -/
def stepEvaluated (c : Chan) (s : State) : State :=
  pidEval c (s.ch c).mot.target (stepCurrent c s) (stepSeconds c s) (stepSampled c s)

/-- The state after an evaluated step is stamped (R183). -/
def stepStamped (c : Chan) (s : State) : State :=
  (stepEvaluated c s).setMot c
    { ((stepEvaluated c s).ch c).mot with lastStepMs := s.clk.timeMs, lastDtMs := stepEl c s }

theorem stepSampled_ch (c : Chan) (s : State) : (stepSampled c s).ch c = { s.ch c with enc := stepEnc c s } :=
  State.ch_setCh _ _ _

theorem stepSampled_pidFaults (c : Chan) (s : State) :
    (stepSampled c s).pidFaults c (s.ch c).mot.target (stepCurrent c s) (stepSeconds c s) = isnan (stepLaw c s).out := by
  rw [pidFaults_eq_isnan_law, stepSampled_ch]
  rfl

/-- A step past the gate samples, evaluates and stamps; then it stops the channel on a fault, or loads the duty. -/
theorem stepExecuted_eq (c : Chan) (s : State) :
    stepExecuted c s =
      if isnan (stepLaw c s).out then (stepFault c (stepStamped c s)).setResult 3#32
      else ((stepStamped c s).setMot c
        { ((stepStamped c s).ch c).mot with pendDuty := ((stepEvaluated c s).ch c).pid.lastOut }).setResult 1#32 := by
  have hsample : encUpdate c s = stepSampled c s := encUpdate_eq_refreshed c s
  have hcurrent : projectRpm ((stepSampled c s).ch c).mot ((stepSampled c s).ch c).enc.rpm = stepCurrent c s := by
    rw [stepSampled_ch]
    rfl
  have htarget : ((stepSampled c s).ch c).mot.target = (s.ch c).mot.target := by rw [stepSampled_ch]
  rw [← stepSampled_pidFaults]
  simp only [stepExecuted, hsample, hcurrent, htarget]
  rfl

theorem exec_step_runs {s : State} {c : Chan} (hr : s.par.role = .controller) (hruns : stepRuns c s) :
    exec (.step c.field) s = .next (stepExecuted c s) := by
  rw [exec_step hr, stepChannel, if_pos ((stepDue_iff_stepRuns c s).mpr hruns)]

theorem lawFaulted_ch (c : Chan) (s : State) :
    (lawFaulted c s).ch c = { s.ch c with pid := { pidCleared (s.ch c).pid with numFault := true } } := by
  cases c <;> rfl

theorem lawFaulted_clk (c : Chan) (s : State) : (lawFaulted c s).clk = s.clk := by cases c <;> rfl

/-- A fault of the law neither reads nor writes the encoder. -/
theorem lawFaulted_stepSampled (c : Chan) (s : State) :
    lawFaulted c (stepSampled c s) = (lawFaulted c s).setCh c { (lawFaulted c s).ch c with enc := stepEnc c s } := by
  cases c <;> rfl

theorem evaluated_mot (c : Chan) (target current dt : F32) (s : State) :
    ((evaluated c target current dt s).ch c).mot = (s.ch c).mot := by
  cases c <;> rfl

theorem evaluated_lastOut (c : Chan) (target current dt : F32) (s : State) :
    ((evaluated c target current dt s).ch c).pid.lastOut = (law (s.ch c).cfg (s.ch c).pid target current dt).out := by
  cases c <;> rfl

/-- `step_fault` zeroes the target and the output and resets the encoder (R189). -/
theorem stepFault_eq (c : Chan) (s : State) :
    stepFault c s = s.setCh c { s.ch c with
      enc := encCleared s.clk.timeMs (s.ch c).enc, mot := motorStopped (s.ch c).mot } := by
  simp [stepFault, zeroOutput, State.setMot, encReset_eq_encCleared, zeroMotor, motorStopped, fZero]

/-- Settles O35: the evaluation in the step (`stepExecuted_eq`) stores the law's duty (`pidEval_eq_evaluated`), which the
step loads. -/
theorem stepExecutes : Obligations.StepExecutes := fun s c hr hruns hok => by
  have hv : stepEvaluated c s =
      evaluated c (s.ch c).mot.target (stepCurrent c s) (stepSeconds c s) (stepSampled c s) :=
    pidEval_eq_evaluated ((stepSampled_pidFaults c s).trans hok)
  have hduty : ((stepEvaluated c s).ch c).pid.lastOut = (stepLaw c s).out := by
    rw [hv, evaluated_lastOut, stepSampled_ch]
    rfl
  have hmot : ((stepEvaluated c s).ch c).mot = (s.ch c).mot := by rw [hv, evaluated_mot, stepSampled_ch]
  refine ⟨stepEvaluated c s, hv, ?_⟩
  rw [exec_step_runs hr hruns, stepExecuted_eq, hok, hduty, stepStamped, hmot]
  simp [State.setMot, State.setResult, result]

/-- Settles O36: the evaluation in the step (`stepExecuted_eq`) faults (`pidEval_eq_lawFaulted`), and `step_fault` stops the
channel (`stepFault_eq`). -/
theorem stepFaultStops : Obligations.StepFaultStops := fun s c hr hruns hfault => by
  have hv : stepEvaluated c s = lawFaulted c (stepSampled c s) :=
    pidEval_eq_lawFaulted ((stepSampled_pidFaults c s).trans hfault)
  refine ⟨lawFaulted c s, rfl, ?_⟩
  rw [exec_step_runs hr hruns, stepExecuted_eq, hfault, stepStamped, hv, lawFaulted_stepSampled]
  simp [State.setMot, State.setResult, result, stepFault_eq, lawFaulted_ch, lawFaulted_clk, motorStopped]

end Sys2Proof.Proofs
end

section
/-! The PWM generator (R191, R192): one cycle, the compare value of a duty, and the high cycles of a whole period. -/

namespace Sys2Proof.Proofs

open Sys2Proof Sys2Proof.Machine Sys2Proof.Spec

/-! ## One cycle, and the restart of a period (R191, R192) -/

theorem pwmTick_eq_pwmNext (top : BitVec 16) (m : Motor) : pwmTick top m = pwmNext top m := by
  unfold pwmTick pwmNext
  dsimp only
  split_ifs <;> rfl

theorem pwmPhase_controller {s : State} (hr : s.par.role = .controller) :
    pwmPhase s = { s with
      ch0 := { s.ch0 with mot := pwmNext s.ctl.pwmTop s.ch0.mot }
      ch1 := { s.ch1 with mot := pwmNext s.ctl.pwmTop s.ch1.mot }
      phase := .bus } := by
  rw [pwmPhase, if_pos hr, pwmTick_eq_pwmNext, pwmTick_eq_pwmNext]

theorem pwmPhase_host {s : State} (hr : s.par.role = .host) : pwmPhase s = { s with phase := .bus } := by
  rw [pwmPhase, hr, if_neg nofun]

theorem step_pwm {s : State} (h : s.phase = .pwm) : step s = .next (pwmPhase s) := by simp [step, h]

/-- Settles O38: the phase in each role, and a write of PWM_TOP, which every value is legal for, as a store
(`step_acceptedWrite`). -/
theorem pwmGenerator : Obligations.PwmGenerator := by
  refine ⟨fun s hp hr => (step_pwm hp).trans (congrArg _ (pwmPhase_controller hr)),
    fun s hp hr => (step_pwm hp).trans (congrArg _ (pwmPhase_host hr)), fun s addr v c hb ha hr => ?_⟩
  have hreg : regAt addr = some .pwmTop := regAt_eq_some_iff.mpr ha
  have hpresent : Reg.pwmTop.present s.par.role = true := by rw [hr]; rfl
  refine ⟨_, step_acceptedWrite hb hreg hpresent rfl rfl, rfl, ?_⟩
  rw [storeReg_pwmTop_ch]
  cases c <;> rfl

/-! ## The compare value (R191) -/

/-- A duty in [0, 1] has its compare value on R191's formula. -/
theorem pwmConv_toNat {x : F32} (hx : inDuty x = true) (hs : x.getLsbD 31 = false ∨ x = 0x80000000#32) (top : BitVec 16) :
    (pwmConv x top).toNat = min (top.toNat + 1) (fMag x * (top.toNat + 1) / 2 ^ 149) := by
  obtain ⟨-, h0, h1⟩ := (inDuty_iff x).mp hx
  have hfin : finite x = true :=
    (finite_iff x).mpr (isFiniteEnc_of_abs_exact_lt (by rw [abs_lt]; constructor <;> linarith))
  have hsign : (fSign x && fMag x != 0) = false := by
    rcases hs with hs | rfl
    · rw [fSign, hs]; rfl
    · decide
  have htop := top.isLt
  rw [pwmConv, hfin, hsign, if_neg (by decide), BitVec.toNat_ofNat]
  exact Nat.mod_eq_of_lt (by omega)

/-- 1.0 is 2^149 units. -/
theorem fMag_fOne : fMag fOne = 2 ^ 149 := by decide

theorem pwmConv_fOne_toNat (top : BitVec 16) : (pwmConv fOne top).toNat = top.toNat + 1 := by
  rw [pwmConv_toNat (by decide) (by decide), fMag_fOne, Nat.mul_div_cancel_left _ (by norm_num), min_self]

theorem pwmConv_zero {x : F32} (hx : x = 0#32 ∨ x = 0x80000000#32) (top : BitVec 16) : pwmConv x top = 0#17 := by
  have hmag : fMag x = 0 := by rw [fMag_eq, (magBits_eq_zero_iff x).mpr hx, magVal_zero]
  have hduty : inDuty x = true := by rcases hx with rfl | rfl <;> decide
  refine BitVec.eq_of_toNat_eq ?_
  rw [pwmConv_toNat hduty (hx.imp_left fun h => by rw [h]; rfl), hmag, Nat.zero_mul, Nat.zero_div, Nat.min_zero]
  rfl

/-- Settles O39: the compare value is the floor or, where that is larger, TOP + 1 (`pwmConv_toNat`). -/
theorem pwmConvIsExact : Obligations.PwmConvIsExact := fun x top hx hs => by
  rw [pwmConv_toNat hx hs]
  refine ⟨min_le_left _ _, ?_, fun hle => ?_, pwmConv_fOne_toNat top, pwmConv_zero (.inl rfl) top,
    pwmConv_zero (.inr rfl) top⟩
  · exact (Nat.mul_le_mul_right _ (min_le_right _ _)).trans (Nat.div_mul_le_self _ _)
  · have hfloor : fMag x * (top.toNat + 1) / 2 ^ 149 < top.toNat + 1 :=
      (min_lt_iff.mp (Nat.lt_succ_of_le hle)).resolve_left (lt_irrefl _)
    rw [min_eq_right hfloor.le, Nat.add_mul, Nat.one_mul]
    exact Nat.lt_div_mul_add (by norm_num)

/-! ## The high cycles of a period (R191) -/

/-- Until the period's end the generator only counts and drives its pin. -/
theorem pwmTick_iterate {top : BitVec 16} {m : Motor} (h0 : m.pwmCnt = 0) {k : Nat} (hk : k ≤ top.toNat) :
    ∃ level, (pwmTick top)^[k] m = { m with pwmCnt := k, pin := level } := by
  induction k with
  | zero => exact ⟨m.pin, by rw [Function.iterate_zero_apply, ← h0]⟩
  | succ k ih =>
    obtain ⟨level, e⟩ := ih (Nat.le_of_succ_le hk)
    refine ⟨decide (k < m.pwmCmp.toNat) && !m.brake, ?_⟩
    have hne : ¬ k = top.toNat := Nat.ne_of_lt hk
    rw [Function.iterate_succ_apply', e, pwmTick_eq_pwmNext, pwmNext]
    simp only [if_neg hne]

/-- The pin in cycle k of a period. -/
theorem pwmTick_iterate_pin {top : BitVec 16} {m : Motor} (h0 : m.pwmCnt = 0) {k : Nat} (hk : k ≤ top.toNat) :
    ((pwmTick top)^[k + 1] m).pin = (decide (k < m.pwmCmp.toNat) && !m.brake) := by
  obtain ⟨level, e⟩ := pwmTick_iterate h0 hk
  rw [Function.iterate_succ_apply', e, pwmTick_eq_pwmNext, pwmNext]

theorem length_filter_range_lt {n N : Nat} (h : n ≤ N) : ((List.range N).filter fun k => decide (k < n)).length = n := by
  rw [← List.Ico.zero_bot, List.Ico.filter_lt_of_ge h, List.Ico.length, Nat.sub_zero]

/-- Settles O40: in cycle k the pin is high exactly for k below the compare value and no brake (`pwmTick_iterate_pin`). -/
theorem pwmHighForCompareCycles : Obligations.PwmHighForCompareCycles := fun top m h0 hcmp => by
  have hpin : ∀ k ∈ List.range (top.toNat + 1),
      ((pwmTick top)^[k + 1] m).pin = (decide (k < m.pwmCmp.toNat) && !m.brake) := fun k hk =>
    pwmTick_iterate_pin h0 (Nat.le_of_lt_succ (List.mem_range.mp hk))
  rw [List.filter_congr hpin]
  cases m.brake with
  | true => simp
  | false => simpa using length_filter_range_lt hcmp

end Sys2Proof.Proofs
end

section
/-! The codec commands (44_frame_codec.md section 3): CODEC_RESET, RX_POP with the fields of a popped frame (R215 to
R217), and the two commands that queue a frame (R200 to R207, R214). -/

namespace Sys2Proof.Proofs

open Sys2Proof Sys2Proof.Machine Sys2Proof.Spec

/-- Settles O42: the codec's reset value is three empty queues. -/
theorem codecResetResult : Obligations.CodecResetResult := ⟨by decide, fun _ => rfl⟩

/-! ## RX_POP (R215, R217) -/

theorem joinBe32_eq_append (b0 b1 b2 b3 : Byte) : joinBe32 b0 b1 b2 b3 = b0 ++ b1 ++ b2 ++ b3 := by
  refine BitVec.eq_of_getLsbD_eq fun k hk => ?_
  simp only [joinBe32, BitVec.getLsbD_or, getLsbD_place, BitVec.getLsbD_append]
  grind

theorem joinBe16_eq_append (b0 b1 : Byte) : joinBe16 b0 b1 = b0 ++ b1 := by
  refine BitVec.eq_of_getLsbD_eq fun k hk => ?_
  simp only [joinBe16, BitVec.getLsbD_or, getLsbD_place, BitVec.getLsbD_append]
  grind

/-- A field of a popped frame is its bytes side by side (R108). -/
theorem get32_eq_field32 (b : Bool) (p : List Byte) (i : Nat) : get32 b p i = field32 b p i := by
  cases b <;> exact joinBe32_eq_append _ _ _ _

theorem get16_eq_field16 (b : Bool) (p : List Byte) (i : Nat) : get16 b p i = field16 b p i := by
  cases b <;> exact joinBe16_eq_append _ _

theorem storeFrame_controller {s : State} (hr : s.par.role = .controller) (p : List Byte) :
    storeFrame p s =
      { s with vel := { v := field32 (le s) p 0, w := field32 (le s) p 4, seq := s.vel.seq + 1#32 } } := by
  simp only [storeFrame, hr, get32_eq_field32]
  rfl

theorem storeFrame_host {s : State} (hr : s.par.role = .host) (p : List Byte) :
    storeFrame p s = { s with lat := latched s p } := by
  simp only [storeFrame, hr, get32_eq_field32, get16_eq_field16]
  rfl

theorem exec_rxPop_empty {s : State} (h : s.codec.rxq = []) : exec .rxPop s = .next (result 0#32 s) := by
  simp only [exec, execRxPop, popFrame, State.rxAvail, h]
  rfl

/-- RX_POP takes the oldest frame off the queue, stores it and returns 1 (R215). -/
theorem exec_rxPop_cons {s : State} {f : Frame} {q : List Frame} (h : s.codec.rxq = f :: q) :
    exec .rxPop s = .next (result 1#32 (storeFrame f.payload { s with codec := { s.codec with rxq := q } })) := by
  simp only [exec, execRxPop, popFrame, State.rxAvail, h]
  rfl

/-- Settles O43, by what the pop stores in each role (`storeFrame_controller`, `storeFrame_host`). -/
theorem rxPopResult : Obligations.RxPopResult :=
  ⟨fun _ h => exec_rxPop_empty h,
    fun s f q hr hq => by
      rw [exec_rxPop_cons hq, storeFrame_controller (s := { s with codec := { s.codec with rxq := q } }) hr]
      rfl,
    fun s f q hr hq => by
      rw [exec_rxPop_cons hq, storeFrame_host (s := { s with codec := { s.codec with rxq := q } }) hr]
      rfl⟩

/-! ## The frames that are sent (R200 to R205) -/

theorem ser32_eq_bytes32 (b : Bool) (w : Word) : ser32 b w = bytes32 b w := by cases b <;> rfl

theorem ser16_eq_bytes16 (b : Bool) (h : Half) : ser16 b h = bytes16 b h := by cases b <;> rfl

theorem velPayload_eq (s : State) (v w : F32) : s.velPayload v w = bytes32 (le s) v ++ bytes32 (le s) w := by
  simp only [State.velPayload, ser32_eq_bytes32]
  rfl

theorem tlmPayload_eq (s : State) : s.tlmPayload = tlmBytes s s.tlmFlags := by
  simp only [State.tlmPayload, ser32_eq_bytes32, ser16_eq_bytes16, tlmBytes, List.map_cons, List.map_nil,
    List.flatten_cons, List.flatten_nil, List.append_assoc, List.append_nil]
  rfl

theorem length_bytes32 (b : Bool) (w : Word) : (bytes32 b w).length = 4 := by cases b <;> rfl

theorem length_bytes16 (b : Bool) (h : Half) : (bytes16 b h).length = 2 := by cases b <;> rfl

theorem length_tlmBytes_flags (s : State) (fl : Half) : (tlmBytes s fl).length = 46 := by
  simp [tlmBytes, length_bytes32, length_bytes16]

/-- The frame the block encodes is R200's, for every payload whose length LEN can hold. -/
theorem encodeFrame_eq_frame (s : State) (id : Byte) {p : List Byte} (hp : p.length < 2 ^ 16) :
    s.encodeFrame id p = frame (csum16 s id) id p := by
  have hlen : (BitVec.ofNat 16 p.length).toNat = p.length := Nat.mod_eq_of_lt hp
  rw [State.encodeFrame, frameBytes, be16_ofNat, csum_eq_sumBytes s id hlen]
  rfl

/-- The flags word of a telemetry frame, bit by bit (R104, R205). -/
theorem getLsbD_tlmFlags (s : State) {i : Nat} (hi : i < 16) : s.tlmFlags.getLsbD i = flagBit s i := by
  simp only [State.tlmFlags, BitVec.getLsbD_or, getLsbD_flag, getLsbD_place, BitVec.getLsbD_extractLsb',
    stale_eq_isStale, State.ch_c0, State.ch_c1]
  match i with
  | 0 | 1 | 2 | 3 | 4 | 5 | 6 => simp [flagBit]
  | k + 7 =>
    have hk : k < 9 := by omega
    simp [flagBit, hi, hk, Nat.add_comm 7 k]

/-! ## Sending (R206) -/

/-- What is queued and what RESULT becomes depend on the link and on the room as R206 says. An empty frame would fit even an
overfull queue, and no frame is empty. -/
theorem sendOutcome_enqueue {f : List Byte} (hf : f ≠ []) (s : State) :
    sendOutcome f s ((enqueue f s).setResult (boolWord (s.canEnqueue f))) := by
  have hpos := List.length_pos_iff.mpr hf
  have hfits : fits s f ↔ f.length ≤ Config.txCap - s.codec.txq.length := by simp only [fits, Config.txCap]; omega
  rw [sendOutcome, hfits]
  rcases enqueue_cases f s with ⟨hl, hcan, e⟩ | ⟨hl, hfull, hcan, e⟩ | ⟨hl, hroom, hcan, e⟩ <;> rw [e, hcan, hl]
  · exact ⟨nofun, nofun, fun _ => rfl⟩
  · rw [raiseError_eq_report]
    exact ⟨fun _ h => absurd h (Nat.not_le.mpr hfull), fun _ _ => rfl, nofun⟩
  · exact ⟨fun _ _ => rfl, fun _ h => absurd hroom h, nofun⟩

theorem frame_ne_nil (wide : Bool) (id : Byte) (p : List Byte) : frame wide id p ≠ [] := List.cons_ne_nil _ _

theorem exec_txCmdFrame_enqueue {s : State} (hr : s.par.role = .host) (h0 : finite s.ctl.arg0 = true)
    (h1 : finite s.ctl.arg1 = true) :
    exec .txCmdFrame s = .next
      ((enqueue (s.encodeFrame 0x01#8 (s.velPayload s.ctl.arg0 s.ctl.arg1)) s).setResult
        (boolWord (s.canEnqueue (s.encodeFrame 0x01#8 (s.velPayload s.ctl.arg0 s.ctl.arg1))))) := by
  simp only [exec, execTxCmdFrame, inRole, hr, if_true, needFinite_of_finite h0, needFinite_of_finite h1]

theorem exec_txTlmFrame_enqueue {s : State} (hr : s.par.role = .controller) :
    exec .txTlmFrame s = .next
      ((enqueue (s.encodeFrame 0x02#8 s.tlmPayload) s).setResult
        (boolWord (s.canEnqueue (s.encodeFrame 0x02#8 s.tlmPayload)))) := by
  simp only [exec, execTxTlmFrame, inRole, hr, if_true]

/-- Settles O44: the frame is R203's velocity payload in R200's frame, and it is sent as R206 says. -/
theorem txCmdFrameResult : Obligations.TxCmdFrameResult := fun s hr h0 h1 => by
  refine ⟨_, exec_txCmdFrame_enqueue hr h0 h1, ?_⟩
  rw [velPayload_eq, encodeFrame_eq_frame s _ (by simp [length_bytes32])]
  exact sendOutcome_enqueue (frame_ne_nil _ _ _) s

/-- Settles O45: as O44 with the telemetry payload, whose flags word is the model's, bit by bit R205's. -/
theorem txTlmFrameResult : Obligations.TxTlmFrameResult := fun s hr => by
  refine ⟨_, s.tlmFlags, exec_txTlmFrame_enqueue hr, fun i hi => getLsbD_tlmFlags s hi, ?_⟩
  rw [tlmPayload_eq, encodeFrame_eq_frame s _ (by simp [length_tlmBytes_flags])]
  exact sendOutcome_enqueue (frame_ne_nil _ _ _) s

end Sys2Proof.Proofs
end

section
/-! The scanner (R208 to R212): the loop of the model is the loop of R209, one way of an iteration after the other, and
where that loop ends only the beginning of a frame stands in the buffer. -/

namespace Sys2Proof.Proofs

open Sys2Proof Sys2Proof.Machine Sys2Proof.Spec

/-! ## The start pair (R209 part 1) -/

theorem pairAt_cons_zero (a : Byte) (r : List Byte) : pairAt (a :: r) 0 ↔ a = 0xAA#8 ∧ r.head? = some 0x55#8 := by
  simp [pairAt, List.head?_eq_getElem?]

theorem pairAt_cons_succ (a : Byte) (r : List Byte) (i : Nat) : pairAt (a :: r) (i + 1) ↔ pairAt r i := by
  simp [pairAt]

theorem not_pairAt_nil (i : Nat) : ¬ pairAt [] i := by simp [pairAt]

theorem findStart_none {buf : List Byte} (h : findStart buf = none) (i : Nat) : ¬ pairAt buf i := by
  induction buf generalizing i with
  | nil => exact not_pairAt_nil i
  | cons a r ih =>
    rw [findStart] at h
    split at h
    · cases h
    · rename_i hpair
      cases i with
      | zero => rwa [pairAt_cons_zero]
      | succ i =>
        rw [pairAt_cons_succ]
        exact ih (Option.map_eq_none_iff.mp h) i

/-- The start search finds the first start pair. -/
theorem findStart_some {buf : List Byte} {i : Nat} (h : findStart buf = some i) :
    pairAt buf i ∧ ∀ j, j < i → ¬ pairAt buf j := by
  induction buf generalizing i with
  | nil => cases h
  | cons a r ih =>
    rw [findStart] at h
    split at h
    · rename_i hpair
      cases h
      exact ⟨(pairAt_cons_zero a r).mpr hpair, nofun⟩
    · rename_i hpair
      obtain ⟨k, hk, rfl⟩ := Option.map_eq_some_iff.mp h
      obtain ⟨hat, hfirst⟩ := ih hk
      refine ⟨(pairAt_cons_succ a r k).mpr hat, fun j hj => ?_⟩
      cases j with
      | zero => rwa [pairAt_cons_zero]
      | succ j =>
        rw [pairAt_cons_succ]
        exact hfirst j (by omega)

theorem pairAt_zero_iff {buf : List Byte} : pairAt buf 0 ↔ ∃ r, buf = 0xAA#8 :: 0x55#8 :: r := by
  constructor
  · intro h
    match buf with
    | [] => exact absurd h (not_pairAt_nil 0)
    | [a] => simp [pairAt] at h
    | a :: b :: r => exact ⟨r, by simpa [pairAt] using h⟩
  · rintro ⟨r, rfl⟩
    exact ⟨rfl, rfl⟩

theorem pairAt_drop {buf : List Byte} {i : Nat} (h : pairAt buf i) : pairAt (buf.drop i) 0 := by
  simpa [pairAt] using h

theorem findStart_of_pairAt_zero {buf : List Byte} (h : pairAt buf 0) : findStart buf = some 0 := by
  obtain ⟨r, rfl⟩ := pairAt_zero_iff.mp h
  exact findStart_pair r

/-! ## The header and the checksum (R209 parts 2 and 3, R210) -/

theorem rxId_eq_headerId (r : Role) : rxId r = headerId r := by cases r <;> rfl

theorem rxLen_eq_headerLen (r : Role) : rxLen r = headerLen r := by cases r <;> rfl

/-- `5 + RXLEN + RXCW` in the model's terms. -/
theorem rxFrameLength_eq (s : State) : rxFrameLength s = 5 + headerLen s.par.role + s.rxCw.bytes := by
  rw [State.rxCw, cwOf_bytes, rxFrameLength]
  cases s.par.role <;> rfl

theorem toNat_joinBe16 (a b : Byte) : (joinBe16 a b).toNat = a.toNat * 256 + b.toNat := by
  rw [joinBe16_eq_append, BitVec.toNat_append, ← Nat.shiftLeft_add_eq_or_of_lt b.isLt, Nat.shiftLeft_eq]

/-- The verdict on five header bytes and what follows them (R209 parts 2 and 3). -/
theorem judge_header (r : Role) (cw : SumWidth) (s1 s2 id hi lo : Byte) (body : List Byte) {n : Nat}
    (hn : (joinBe16 hi lo).toNat = n) :
    judge r cw (s1 :: s2 :: id :: hi :: lo :: body) =
      if id ≠ headerId r then .unknownId
      else if n ≠ headerLen r then .badLength
      else if body.length < n + cw.bytes then .wait
      else if (body.drop n).take cw.bytes ≠ csum cw id (joinBe16 hi lo) (body.take n) then .badSum
      else .valid id (body.take n) (5 + n + cw.bytes) := by
  subst hn
  rw [← rxId_eq_headerId, ← rxLen_eq_headerLen]
  rfl

/-- Five bytes after a start pair are a header and a body. -/
theorem exists_header {buf : List Byte} (hp : pairAt buf 0) (h5 : 5 ≤ buf.length) :
    ∃ id hi lo body, buf = 0xAA#8 :: 0x55#8 :: id :: hi :: lo :: body := by
  obtain ⟨r, rfl⟩ := pairAt_zero_iff.mp hp
  match r with
  | id :: hi :: lo :: body => exact ⟨id, hi, lo, body, rfl⟩
  | [] | [_] | [_, _] => simp at h5

/-- The checksum the decoder compares with is the one the payload asks for (R201). -/
theorem csum_eq_rightSum {s : State} {len : Half} {p : List Byte} (hlen : len.toNat = p.length) (hp : p = payloadOf s) :
    csum s.rxCw (headerId s.par.role) len p = rightSum s := by
  rw [State.rxCw, rxId_eq_headerId, csum_eq_sumBytes s _ hlen, hp, rightSum]

/-- The verdict on a buffer that begins with a start pair and holds a header, in R209's words. -/
theorem judge_of_pairAt_zero {s : State} (hp : pairAt s.codec.rxbuf 0) (h5 : 5 ≤ s.codec.rxbuf.length) :
    judge s.par.role s.rxCw s.codec.rxbuf =
      if s.codec.rxbuf.getD 2 0#8 ≠ headerId s.par.role then .unknownId
      else if lenField s.codec.rxbuf ≠ headerLen s.par.role then .badLength
      else if s.codec.rxbuf.length < rxFrameLength s then .wait
      else if sumOf s ≠ rightSum s then .badSum
      else .valid (headerId s.par.role) (payloadOf s) (rxFrameLength s) := by
  have hframe := rxFrameLength_eq s
  obtain ⟨id, hi, lo, body, hbuf⟩ := exists_header hp h5
  have hid : id = s.codec.rxbuf.getD 2 0#8 := by rw [hbuf]; rfl
  have hlen : (joinBe16 hi lo).toNat = lenField s.codec.rxbuf := by rw [hbuf, toNat_joinBe16]; rfl
  have hlength : s.codec.rxbuf.length = 5 + body.length := by rw [hbuf]; simp; omega
  have hpay : body.take (headerLen s.par.role) = payloadOf s := by rw [payloadOf, hbuf]; rfl
  have hsum : (body.drop (headerLen s.par.role)).take s.rxCw.bytes = sumOf s := by
    rw [sumOf, hframe, List.drop_take, ← List.drop_drop, hbuf, Nat.add_sub_cancel_left]
    rfl
  have hjudge := judge_header s.par.role s.rxCw 0xAA#8 0x55#8 id hi lo body hlen
  rw [← hbuf, hid] at hjudge
  rw [hjudge]
  refine ite_congr rfl (fun _ => rfl) fun hid' => ite_congr rfl (fun _ => rfl) fun hlen' => ?_
  rw [not_not] at hid' hlen'
  rw [hid', hlen', hsum, ← hframe]
  refine ite_congr (propext (by omega)) (fun _ => rfl) fun hshort => ?_
  rw [csum_eq_rightSum (by rw [hlen, hlen', List.length_take]; omega) hpay, hpay]

/-! ## The loop (R209, R211) -/

theorem scanIter_badLength {s : State} (h : findStart s.codec.rxbuf = some 0)
    (hv : judge s.par.role s.rxCw s.codec.rxbuf = .badLength) :
    scanIter s = (rejectLength s, true) := by
  simp [scanIter, searchDrop, h, discard_zero, hv]

/-- Taking an accepted frame's bytes before or after the frame is counted and queued comes to the same. -/
theorem consume_acceptFrame_eq_accepted (n : Nat) (f : Frame) (s : State) :
    consume n (acceptFrame f s) =
      accepted f { s with codec := { s.codec with rxbuf := s.codec.rxbuf.drop n } } := by
  rcases acceptFrame_cases f s with ⟨hfull, e⟩ | ⟨hfull, e⟩ <;> rw [e]
  · rw [raiseError_eq_report]
    exact (if_pos hfull).symm
  · exact (if_neg hfull).symm

theorem dropped_zero (s : State) : dropped 0 s = s := discard_zero s

/-- An iteration without a start pair. -/
theorem scanIter_none {s : State} (h : findStart s.codec.rxbuf = none) :
    scanIter s = (dropped (if s.codec.rxbuf.getLast? = some 0xAA#8 then s.codec.rxbuf.length - 1
      else s.codec.rxbuf.length) s, false) := by
  simp only [scanIter, searchDrop, h, Option.isNone_none, if_true]
  rfl

/-- The garbage before a start pair goes first; from there the iteration is that of a buffer which begins with the pair. -/
theorem scanIter_some {s : State} {i : Nat} (h : findStart s.codec.rxbuf = some i) :
    scanIter s = scanIter (dropped i s) := by
  have hstart : findStart (dropped i s).codec.rxbuf = some 0 :=
    findStart_of_pairAt_zero (pairAt_drop (findStart_some h).1)
  have hdrop : searchDrop (dropped i s).codec.rxbuf = 0 := by rw [searchDrop, hstart]
  have hgarbage : searchDrop s.codec.rxbuf = i := by rw [searchDrop, h]
  rw [scanIter, scanIter, hdrop, hgarbage, hstart, h, discard_zero]
  rfl

/-- From a start pair on, one iteration goes as R209 says, and `h` goes on for what is left. -/
theorem scans_of_pairAt_zero {n : Nat} {s : State} (hp : pairAt s.codec.rxbuf 0)
    (h : ∀ t : State, t.codec.rxbuf.length < s.codec.rxbuf.length → Scans t (scanLoop n t)) :
    Scans s (scanLoop (n + 1) s) := by
  have hstart := findStart_of_pairAt_zero hp
  have hnext {t : State} (ht : scanIter s = (t, true)) : Scans t (scanLoop (n + 1) s) := by
    have hshorter := scanIter_shorter s (by rw [ht])
    rw [ht] at hshorter
    rw [scanLoop_of_continue ht]
    exact h t hshorter
  have hstay (hv : judge s.par.role s.rxCw s.codec.rxbuf = .wait) : scanLoop (n + 1) s = s := by
    rw [scanLoop, scanIter_wait hstart hv]
    rfl
  by_cases h5 : s.codec.rxbuf.length < 5
  · rw [hstay (judge_of_length_lt h5)]
    exact .shortHeader s hp h5
  rw [Nat.not_lt] at h5
  have hv := judge_of_pairAt_zero hp h5
  split_ifs at hv with hid hlen hshort hsum
  · exact .unknownId s _ hp h5 hid (hnext (scanIter_unknownId hstart hv))
  · exact .badLength s _ hp h5 (not_not.mp hid) hlen (hnext (scanIter_badLength hstart hv))
  all_goals have hok : headerOk s := ⟨hp, h5, not_not.mp hid, not_not.mp hlen⟩
  · rw [hstay hv]
    exact .shortBody s hok hshort
  · exact .badSum s _ hok (Nat.not_lt.mp hshort) hsum (hnext (scanIter_badSum hstart hv))
  · have haccept := scanIter_valid hstart hv
    rw [consume_acceptFrame_eq_accepted] at haccept
    exact .valid s _ hok (Nat.not_lt.mp hshort) (not_not.mp hsum) (hnext haccept)

theorem scanLoop_scans {n : Nat} {s : State} (h : s.codec.rxbuf.length < n) : Scans s (scanLoop n s) := by
  induction n generalizing s with
  | zero => omega
  | succ n ih =>
    cases hf : findStart s.codec.rxbuf with
    | none =>
      rw [scanLoop, scanIter_none hf]
      exact .noPair s (findStart_none hf)
    | some i =>
      obtain ⟨hat, hfirst⟩ := findStart_some hf
      have hloop : scanLoop (n + 1) s = scanLoop (n + 1) (dropped i s) := by rw [scanLoop, scanIter_some hf, scanLoop]
      have hlength : (dropped i s).codec.rxbuf.length = s.codec.rxbuf.length - i := List.length_drop
      have hscan : Scans (dropped i s) (scanLoop (n + 1) (dropped i s)) :=
        scans_of_pairAt_zero (pairAt_drop hat) fun t ht => ih (by omega)
      rw [hloop]
      rcases Nat.eq_zero_or_pos i with rfl | hpos
      · rwa [dropped_zero] at hscan ⊢
      · exact .garbage s _ i hpos hat hfirst hscan

/-- A byte that arrives is appended, and the decoder scans (R208). -/
theorem deliver_scans {s : State} (hl : s.link.state = .up) (b : Byte) :
    Scans { s with codec := { s.codec with rxbuf := s.codec.rxbuf ++ [b] } } (deliver b s) := by
  rw [deliver, if_pos hl]
  exact scanLoop_scans (Nat.lt_succ_self _)

/-! ## What is left in the buffer (R212) -/

/-- The beginning of a frame of the role, cut off before its end: all that R212 lets stand in the buffer. -/
def FramePrefix (s : State) (buf : List Byte) : Prop :=
  buf = [] ∨ buf = [0xAA#8] ∨ ([0xAA#8, 0x55#8] <+: buf ∧ buf.length < 5) ∨
    (rxHeader s.par.role <+: buf ∧ buf.length < rxFrameLength s)

theorem FramePrefix.congr {s t : State} (hpar : t.par = s.par) (hcfg : t.ctl.cfg = s.ctl.cfg) {buf : List Byte}
    (h : FramePrefix t buf) : FramePrefix s buf := by
  simpa only [FramePrefix, rxFrameLength, hpar, hcfg] using h

theorem accepted_par (f : Frame) (s : State) : (accepted f s).par = s.par := by
  unfold accepted; split <;> rfl

theorem accepted_cfg (f : Frame) (s : State) : (accepted f s).ctl.cfg = s.ctl.cfg := by
  unfold accepted; split <;> rfl

/-- Without a start pair nothing is left but a trailing 0xAA. -/
theorem drop_of_noPair (buf : List Byte) :
    buf.drop (if buf.getLast? = some 0xAA#8 then buf.length - 1 else buf.length) = [] ∨
    buf.drop (if buf.getLast? = some 0xAA#8 then buf.length - 1 else buf.length) = [0xAA#8] := by
  split
  · rename_i hlast
    obtain ⟨front, rfl⟩ := List.getLast?_eq_some_iff.mp hlast
    exact .inr (by simp)
  · exact .inl List.drop_length

/-- A header that is accepted is the role's, byte for byte (R105, R210). -/
theorem rxHeader_prefix_of_headerOk {s : State} (h : headerOk s) : rxHeader s.par.role <+: s.codec.rxbuf := by
  obtain ⟨hp, h5, hid, hlen⟩ := h
  obtain ⟨id, hi, lo, body, hbuf⟩ := exists_header hp h5
  rw [hbuf] at hid hlen ⊢
  have hwords : hi.toNat * 256 + lo.toNat = headerLen s.par.role := hlen
  have hsmall : headerLen s.par.role < 256 := by cases s.par.role <;> decide
  have hlt := lo.isLt
  have hhi : hi = 0x00#8 := BitVec.eq_of_toNat_eq (by show hi.toNat = 0; omega)
  have hlo : lo = BitVec.ofNat 8 (headerLen s.par.role) :=
    BitVec.eq_of_toNat_eq (by rw [BitVec.toNat_ofNat]; omega)
  have hheader : rxHeader s.par.role =
      [0xAA#8, 0x55#8, headerId s.par.role, 0x00#8, BitVec.ofNat 8 (headerLen s.par.role)] := by
    cases s.par.role <;> rfl
  have hid' : id = headerId s.par.role := hid
  rw [hheader, hid', hhi, hlo]
  exact ⟨body, rfl⟩

theorem framePrefix_of_scans {s t : State} (h : Scans s t) : FramePrefix s t.codec.rxbuf := by
  induction h with
  | noPair s _ => exact (drop_of_noPair s.codec.rxbuf).imp_right .inl
  | shortHeader s hp h5 =>
    obtain ⟨r, hr⟩ := pairAt_zero_iff.mp hp
    exact .inr (.inr (.inl ⟨⟨r, hr.symm⟩, h5⟩))
  | shortBody s hok hshort => exact .inr (.inr (.inr ⟨rxHeader_prefix_of_headerOk hok, hshort⟩))
  | garbage | unknownId | badLength | badSum => rename_i ih; exact ih.congr rfl rfl
  | valid s t _ _ _ _ ih => exact ih.congr (accepted_par _ _) (accepted_cfg _ _)

theorem deliver_framePrefix {s : State} (hl : s.link.state = .up) (b : Byte) :
    FramePrefix s (deliver b s).codec.rxbuf :=
  (framePrefix_of_scans (deliver_scans hl b)).congr rfl rfl

/-! ## A byte at the front (R208, R244) -/

theorem deliver_down {s : State} (hl : s.link.state = .down) (b : Byte) : deliver b s = s := by
  rw [deliver, hl]
  exact if_neg nofun

/-- A step of the receiver delivers the first of the bytes when no frame of the table stands at their front. -/
theorem step_rxByte {s : State} {b : Byte} {rest : List Byte} (hp : s.phase = .rx) (hb : s.rxb = b :: rest)
    (hn : s.nextFrame = none) : step s = .next (deliver b { s with rxb := rest }) := by
  simp only [step, hp, rxPhase, hb, hn, rxBytePhase]

theorem nextFrame_eq_none {s : State}
    (h : ∀ f, decodeFrame (sumWidth (s.ctl.cfg.getLsbD 0)) (sumWidth (s.ctl.cfg.getLsbD 1)) s.rxb ≠ .ok f) :
    s.nextFrame = none := by
  rw [State.nextFrame, State.csum16Cmd, State.csum16Tlm]
  cases hd : decodeFrame (sumWidth (s.ctl.cfg.getLsbD 0)) (sumWidth (s.ctl.cfg.getLsbD 1)) s.rxb with
  | error e => rfl
  | ok f => exact absurd hd (h f)

/-- Settles O49: the model's loop is R209's (`deliver_scans`), and where that ends only the beginning of a frame is left
(`deliver_framePrefix`). -/
theorem decoderHoldsOnlyAFramePrefix : Obligations.DecoderHoldsOnlyAFramePrefix :=
  ⟨fun _ b hl => deliver_scans hl b,
    fun _ b hl => deliver_down hl b,
    fun _ _ _ hp hb hn => step_rxByte hp hb (nextFrame_eq_none hn),
    fun _ b hl => deliver_framePrefix hl b⟩

end Sys2Proof.Proofs
end

section
/-! The serial line (45_uart_link.md section 1): the transmitter sends a byte's ten bits (R231 to R233), and the receiver
samples them and delivers the byte (R234 to R236, R244). -/

namespace Sys2Proof.Proofs

open Sys2Proof Sys2Proof.Machine Sys2Proof.Spec

/-! ## One cycle of the transmitter (R233, R237, R240) -/

theorem txBit_eq_lineBit (b : Byte) (i : Nat) : txBit b i = lineBit b i := by
  rcases Nat.eq_zero_or_pos i with rfl | hpos
  · rfl
  · by_cases h8 : i ≤ 8
    · simp [txBit, lineBit, h8, hpos.ne', Nat.not_le.mpr (Nat.lt_succ_of_le h8)]
    · simp [txBit, lineBit, h8, hpos.ne', show 9 ≤ i by omega]

theorem txShift_busy {u : UartTx} (h : u.busy = true) : txShift u = bitSent u := by
  simp only [txShift, h, if_true, bitSent, txBit_eq_lineBit]
  have hstop : decide (u.idx + 1 ≠ 10) = (u.idx + 1 != 10) := by rw [Bool.eq_iff_iff]; simp
  rw [hstop]

theorem txCycle_busy {s : State} (h : s.utx.busy = true) : txCycle s = { s with utx := bitSent s.utx } := by
  rcases txLoad_cases s with ⟨b, q, -, hidle, -⟩ | ⟨-, e⟩
  · exact absurd (h.symm.trans hidle) nofun
  · rw [txCycle, e, txShift_busy h]

theorem txLoad_ready {s : State} {b : Byte} {q : List Byte} (hb : s.utx.busy = false) (hl : s.link.state = .up)
    (hq : s.codec.txq = b :: q) :
    txLoad s = { s with
      codec := { s.codec with txq := q }
      utx := { s.utx with busy := true, byte := b, idx := 0, cnt := 0, div := s.ctl.baudDiv.toNat } } := by
  simp only [txLoad, hq, hb, State.linkUp, hl]
  rfl

theorem txCycle_ready {s : State} {b : Byte} {q : List Byte} (hb : s.utx.busy = false) (hl : s.link.state = .up)
    (hq : s.codec.txq = b :: q) :
    txCycle s = { s with
      codec := { s.codec with txq := q }
      utx := bitSent { s.utx with busy := true, byte := b, idx := 0, cnt := 0, div := s.ctl.baudDiv.toNat } } := by
  rw [txCycle, txLoad_ready hb hl hq, txShift_busy rfl]

theorem txCycle_idle {s : State} (hb : s.utx.busy = false) (h : s.codec.txq = [] ∨ s.link.state = .down) :
    txCycle s = { s with utx := { s.utx with pin := true } } := by
  rcases txLoad_cases s with ⟨b, q, hq, -, hl, -⟩ | ⟨-, e⟩
  · simp [hq, hl] at h
  · simp [txCycle, e, txShift, hb]

theorem step_tx {s : State} (h : s.phase = .tx) : step s = .next { txCycle s with phase := .pwm } := by
  simp [step, h, txPhase]

/-! ## A whole byte (R231, R232) -/

/-- The transmitter after n cycles of a byte, with DIV cycles to a bit. -/
def sending (b : Byte) (div n : Nat) (pin : Bool) : UartTx :=
  { busy := n / div != 10, byte := b, idx := n / div, cnt := n % div, div := div, pin := pin }

/-- One more cycle drives the bit whose turn it is. -/
theorem bitSent_sending (b : Byte) {div n : Nat} (pin : Bool) (hdiv : 0 < div) (hn : n < 10 * div) :
    bitSent (sending b div n pin) = sending b div (n + 1) (lineBit b (n / div)) := by
  have hbit : n / div < 10 := Nat.div_lt_of_lt_mul (by rwa [Nat.mul_comm])
  have hsplit := Nat.div_add_mod n div
  have hmod := Nat.mod_lt n hdiv
  by_cases hend : n % div + 1 = div
  · obtain ⟨hq, hr⟩ : (n + 1) / div = n / div + 1 ∧ (n + 1) % div = 0 :=
      (Nat.div_mod_unique hdiv).mpr ⟨by rw [Nat.mul_succ]; omega, hdiv⟩
    simp [bitSent, sending, hend, hq, hr]
  · obtain ⟨hq, hr⟩ : (n + 1) / div = n / div ∧ (n + 1) % div = n % div + 1 :=
      (Nat.div_mod_unique hdiv).mpr ⟨by omega, by omega⟩
    simp [bitSent, sending, hend, hq, hr]

theorem sending_busy (b : Byte) {div n : Nat} (pin : Bool) (hn : n < 10 * div) : (sending b div n pin).busy = true := by
  have hbit : n / div < 10 := Nat.div_lt_of_lt_mul (by rwa [Nat.mul_comm])
  simp [sending, hbit.ne]

/-- The block while the transmitter sends the byte at the head of `txq`. -/
theorem txCycle_iterate {s : State} {b : Byte} {q : List Byte} (hb : s.utx.busy = false) (hl : s.link.state = .up)
    (hq : s.codec.txq = b :: q) (hdiv : 0 < s.ctl.baudDiv.toNat) {k : Nat} (hk : k < 10 * s.ctl.baudDiv.toNat) :
    txCycle^[k + 1] s = { s with
      codec := { s.codec with txq := q }
      utx := sending b s.ctl.baudDiv.toNat (k + 1) (lineBit b (k / s.ctl.baudDiv.toNat)) } := by
  induction k with
  | zero =>
    have hload : ({ s.utx with busy := true, byte := b, idx := 0, cnt := 0, div := s.ctl.baudDiv.toNat } : UartTx) =
        sending b s.ctl.baudDiv.toNat 0 s.utx.pin := by simp [sending]
    rw [Function.iterate_one, txCycle_ready hb hl hq, hload, bitSent_sending b _ hdiv hk]
  | succ k ih =>
    rw [Function.iterate_succ_apply', ih (by omega), txCycle_busy (sending_busy b _ hk)]
    exact congrArg (fun u => { s with codec := { s.codec with txq := q }, utx := u }) (bitSent_sending b _ hdiv hk)

/-- Settles O50: one cycle by the state of the transmitter, and the ten bits of a byte by `txCycle_iterate`. -/
theorem transmitterSendsTheByte : Obligations.TransmitterSendsTheByte := by
  refine ⟨fun _ hp => step_tx hp, fun _ hb => txCycle_busy hb, fun _ _ _ hb hl hq => txCycle_ready hb hl hq,
    fun _ hb h => txCycle_idle hb h, fun s b q hb hl hq hdiv => ?_⟩
  have hlast := txCycle_iterate hb hl hq hdiv (k := 10 * s.ctl.baudDiv.toNat - 1) (by omega)
  rw [Nat.sub_add_cancel (by omega)] at hlast
  refine ⟨fun k hk => by rw [txCycle_iterate hb hl hq hdiv hk]; rfl, ?_, ?_⟩
  · rw [hlast]
    simp [sending, Nat.mul_div_cancel _ hdiv]
  · rw [hlast]

/-! ## The receiver's registers and the decoder (R208) -/

/-- The block with these receiver registers. -/
def withRx (u : UartRx) (s : State) : State := { s with urx := u }

theorem acceptFrame_withRx (u : UartRx) (f : Frame) (s : State) :
    acceptFrame f (withRx u s) = withRx u (acceptFrame f s) := by
  unfold acceptFrame
  dsimp only [withRx]
  split <;> rfl

/-- The scanner neither reads nor writes the receiver's registers. -/
theorem scanIter_withRx (u : UartRx) (s : State) :
    scanIter (withRx u s) = (withRx u (scanIter s).1, (scanIter s).2) := by
  have hfind : findStart (withRx u s).codec.rxbuf = findStart s.codec.rxbuf := rfl
  have hdrop : discard (searchDrop (withRx u s).codec.rxbuf) (withRx u s) =
      withRx u (discard (searchDrop s.codec.rxbuf) s) := rfl
  have hjudge (t : State) : judge (withRx u t).par.role (withRx u t).rxCw (withRx u t).codec.rxbuf =
      judge t.par.role t.rxCw t.codec.rxbuf := rfl
  simp only [scanIter, hfind, hdrop, hjudge]
  split
  · rfl
  · generalize discard (searchDrop s.codec.rxbuf) s = t
    cases judge t.par.role t.rxCw t.codec.rxbuf with
    | valid id payload n => simp only [acceptFrame_withRx]; rfl
    | wait | unknownId | badLength | badSum => rfl

theorem scanLoop_withRx (u : UartRx) (n : Nat) (s : State) : scanLoop n (withRx u s) = withRx u (scanLoop n s) := by
  induction n generalizing s with
  | zero => rfl
  | succ n ih =>
    simp only [scanLoop, scanIter_withRx]
    split
    · exact ih _
    · rfl

theorem deliver_withRx (u : UartRx) (b : Byte) (s : State) : deliver b (withRx u s) = withRx u (deliver b s) := by
  cases hl : s.link.state with
  | up =>
    rw [deliver, deliver, if_pos hl, if_pos (show (withRx u s).link.state = .up from hl)]
    exact scanLoop_withRx u _ { s with codec := { s.codec with rxbuf := s.codec.rxbuf ++ [b] } }
  | down => rw [deliver_down hl, deliver_down (s := withRx u s) hl]

/-! ## One cycle of the receiver (R234, R235, R244) -/

section
variable {s : State}

theorem rxCycle_waitHigh (hl : s.link.state = .up) (hs : s.urx.state = .waitHigh) :
    rxCycle s = { s with urx := { s.urx with state := if s.urx.sync2 then .idle else .waitHigh } } := by
  rw [rxCycle_up s hl, hs]
  dsimp only
  split
  · rfl
  · rw [← hs]

/-- A low line at an idle receiver is a start edge (R234). -/
theorem rxCycle_start (hl : s.link.state = .up) (hs : s.urx.state = .idle) (hlow : s.urx.sync2 = false) :
    rxCycle s = { s with urx := { s.urx with state := .busy, t := 1, div := s.ctl.baudDiv.toNat } } := by
  rw [rxCycle_up s hl, hs]
  dsimp only
  rw [hlow]
  rfl

theorem rxCycle_idle (hl : s.link.state = .up) (hs : s.urx.state = .idle) (hhigh : s.urx.sync2 = true) :
    rxCycle s = s := by
  rw [rxCycle_up s hl, hs]
  exact if_pos hhigh

theorem rxCycle_eq_rxBusy (hl : s.link.state = .up) (hs : s.urx.state = .busy) : rxCycle s = rxBusy s := by
  rw [rxCycle_up s hl, hs]

/-- Inside a byte only the receiver's own registers move until the stop bit's sample. -/
theorem rxCycle_busy (hl : s.link.state = .up) (hs : s.urx.state = .busy) {k : Option Nat}
    (hk : sampleBit s.urx.t s.urx.div = k) (h9 : k ≠ some 9) : rxCycle s = withRx (rxBusyNext k s.urx) s := by
  subst hk
  rw [rxCycle_eq_rxBusy hl hs]
  exact if_neg h9

theorem rxCycle_between (hl : s.link.state = .up) (hs : s.urx.state = .busy)
    (ht : ∀ k, k ≤ 9 → s.urx.t ≠ k * s.urx.div + s.urx.div / 2) :
    rxCycle s = { s with urx := { s.urx with t := s.urx.t + 1 } } :=
  rxCycle_busy hl hs (sampleBit_none _ _ ht) nofun

theorem sampleBit_start (div : Nat) : sampleBit (div / 2) div = some 0 := by simp [sampleBit, List.range_succ]

/-- A start bit that reads 1 is forgotten (R234). -/
theorem rxCycle_falseStart (hl : s.link.state = .up) (hs : s.urx.state = .busy) (ht : s.urx.t = s.urx.div / 2)
    (hhigh : s.urx.sync2 = true) : rxCycle s = { s with urx := { s.urx with state := .idle, t := s.urx.t + 1 } } := by
  rw [rxCycle_busy hl hs (ht ▸ sampleBit_start _) (by decide)]
  simp [rxBusyNext, hhigh, withRx]

theorem rxCycle_startBit (hl : s.link.state = .up) (hs : s.urx.state = .busy) (ht : s.urx.t = s.urx.div / 2)
    (hlow : s.urx.sync2 = false) : rxCycle s = { s with urx := { s.urx with t := s.urx.t + 1 } } := by
  rw [rxCycle_busy hl hs (ht ▸ sampleBit_start _) (by decide)]
  simp [rxBusyNext, hlow, withRx]

theorem getLsbD_putBit (b : Byte) (i : Nat) (v : Bool) {j : Nat} (hj : j < 8) :
    (putBit b i v).getLsbD j = if j = i then v else b.getLsbD j := by
  have hmask : (BitVec.ofNat 8 (2 ^ i)).getLsbD j = decide (j = i) := by
    rw [BitVec.getLsbD_ofNat, Nat.testBit_two_pow]
    simp [hj, eq_comm]
  cases v with
  | true => simp only [putBit, if_true, BitVec.getLsbD_or, hmask]; grind
  | false => simp only [putBit, Bool.false_eq_true, if_false, BitVec.getLsbD_and, BitVec.getLsbD_not, hmask]; grind

theorem rxBusyNext_dataBit (u : UartRx) {i : Nat} (hi : i < 8) :
    rxBusyNext (some (i + 1)) u = { u with t := u.t + 1, shift := putBit u.shift i u.sync2 } := by
  interval_cases i <;> rfl

/-- The sample of data bit i is stored at its place (R234). -/
theorem rxCycle_dataBit (hl : s.link.state = .up) (hs : s.urx.state = .busy) (hdiv : 0 < s.urx.div) {i : Nat}
    (hi : i < 8) (ht : s.urx.t = (i + 1) * s.urx.div + s.urx.div / 2) :
    rxCycle s = { s with urx := { s.urx with t := s.urx.t + 1, shift := putBit s.urx.shift i s.urx.sync2 } } := by
  have h9 : some (i + 1) ≠ some 9 := fun h => by rw [Option.some.injEq] at h; omega
  rw [rxCycle_busy hl hs (ht ▸ sampleBit_at _ (i + 1) hdiv (by omega)) h9, rxBusyNext_dataBit _ hi]
  rfl

theorem rxCycle_stopBit (hl : s.link.state = .up) (hs : s.urx.state = .busy) (hdiv : 0 < s.urx.div)
    (ht : s.urx.t = 9 * s.urx.div + s.urx.div / 2) (hhigh : s.urx.sync2 = true) :
    rxCycle s = { deliver s.urx.shift s with urx := { s.urx with state := .idle, t := s.urx.t + 1 } } := by
  have hbusy : rxBusy s = deliver s.urx.shift (withRx (rxBusyNext (some 9) s.urx) s) := by
    simp only [rxBusy, ht, sampleBit_at _ 9 hdiv le_rfl, hhigh, if_true]
    rfl
  rw [rxCycle_eq_rxBusy hl hs, hbusy, deliver_withRx]
  simp [rxBusyNext, hhigh, withRx]

/-- A stop bit that reads 0 is a framing error (R235). -/
theorem rxCycle_framing (hl : s.link.state = .up) (hs : s.urx.state = .busy) (hdiv : 0 < s.urx.div)
    (ht : s.urx.t = 9 * s.urx.div + s.urx.div / 2) (hlow : s.urx.sync2 = false) :
    rxCycle s = { report .rxFraming 0#4 { s with cnt := { s.cnt with rxFerr := s.cnt.rxFerr + 1#32 } } with
        urx := { s.urx with state := .waitHigh, t := s.urx.t + 1 } } := by
  have hbusy : rxBusy s = framingError (withRx (rxBusyNext (some 9) s.urx) s) := by
    simp only [rxBusy, ht, sampleBit_at _ 9 hdiv le_rfl, hlow, if_true]
    rfl
  rw [rxCycle_eq_rxBusy hl hs, hbusy, framingError, raiseError_eq_report]
  simp [rxBusyNext, hlow, withRx, report, stickyOr]

theorem step_rxPin (hp : s.phase = .rx) (hb : s.rxb = []) : step s = .next { rxCycle s with phase := .tx } := by
  simp [step, hp, rxPhase, hb, rxPinPhase]

end

/-! ## A whole byte on a clean line (R234 to R236) -/

/-- The level of a line that carries the byte and this stop bit, j cycles after the start edge, DIV cycles to a bit. -/
def lineLevel (b : Byte) (stop : Bool) (div j : Nat) : Bool := if j / div = 9 then stop else lineBit b (j / div)

/-- The receiver n cycles into a byte: the data bits sampled by then are the byte's. -/
structure Receiving (b : Byte) (div n : Nat) (u : UartRx) : Prop where
  busy : u.state = .busy
  time : u.t = n
  copy : u.div = div
  bits : ∀ i, i < 8 → (i + 1) * div + div / 2 < n → u.shift.getLsbD i = b.getLsbD i

/-- A bit's sample point lies within the bit. -/
theorem samplePoint_div {div : Nat} (hdiv : 0 < div) (k : Nat) : (k * div + div / 2) / div = k := by
  rw [Nat.mul_comm, Nat.mul_add_div hdiv, Nat.div_eq_of_lt (Nat.div_lt_self hdiv Nat.one_lt_two), Nat.add_zero]

theorem lineLevel_startBit (b : Byte) (stop : Bool) {div j : Nat} (hj : j < div) : lineLevel b stop div j = false := by
  rw [lineLevel, Nat.div_eq_of_lt hj]
  rfl

theorem lineLevel_dataBit (b : Byte) (stop : Bool) {div i : Nat} (hdiv : 0 < div) (hi : i < 8) :
    lineLevel b stop div ((i + 1) * div + div / 2) = b.getLsbD i := by
  rw [lineLevel, samplePoint_div hdiv, if_neg (by omega), lineBit, Nat.add_sub_cancel, decide_eq_false (by omega)]
  rfl

theorem lineLevel_stopBit (b : Byte) (stop : Bool) {div : Nat} (hdiv : 0 < div) :
    lineLevel b stop div (9 * div + div / 2) = stop := by
  rw [lineLevel, samplePoint_div hdiv, if_pos rfl]

section
variable {b : Byte} {div n : Nat} {u : UartRx} {s : State}

/-- Up to the start bit's sample no data bit has been sampled. -/
theorem Receiving.of_startBit (hs : u.state = .busy) (ht : u.t = n) (hd : u.div = div) (hdiv : 0 < div)
    (hn : n ≤ div / 2 + 1) : Receiving b div n u :=
  ⟨hs, ht, hd, fun i _ hlt => by
    have : 0 < (i + 1) * div := Nat.mul_pos (Nat.succ_pos i) hdiv
    omega⟩

theorem Receiving.tick_startBit (h : Receiving b div n u) (hl : s.link.state = .up) (hdiv : 0 < div)
    (hn : n = div / 2) : ∃ v, rxTick (withRx u s) false = withRx v s ∧ Receiving b div (n + 1) v := by
  obtain ⟨hs, rfl, rfl, -⟩ := h
  exact ⟨_, rxCycle_startBit (s := withRx { u with sync2 := false } s) hl hs hn rfl,
    .of_startBit hs rfl rfl hdiv (Nat.succ_le_succ hn.le)⟩

theorem Receiving.tick_dataBit (h : Receiving b div n u) (hl : s.link.state = .up) (hdiv : 0 < div) {i : Nat}
    (hi : i < 8) (hn : n = (i + 1) * div + div / 2) :
    ∃ v, rxTick (withRx u s) (b.getLsbD i) = withRx v s ∧ Receiving b div (n + 1) v := by
  obtain ⟨hs, rfl, rfl, hbits⟩ := h
  refine ⟨_, rxCycle_dataBit (s := withRx { u with sync2 := b.getLsbD i } s) hl hs hdiv hi hn, hs, rfl, rfl,
    fun j hj hlt => ?_⟩
  rw [getLsbD_putBit _ _ _ hj]
  change _ < u.t + 1 at hlt
  rcases Nat.lt_trichotomy j i with hji | rfl | hij
  · have := Nat.mul_lt_mul_of_pos_right (Nat.add_lt_add_right hji 1) hdiv
    rw [if_neg hji.ne]
    exact hbits j hj (by omega)
  · exact if_pos rfl
  · have := Nat.mul_lt_mul_of_pos_right (Nat.add_lt_add_right hij 1) hdiv
    omega

theorem Receiving.tick_between (h : Receiving b div n u) (hl : s.link.state = .up)
    (hn : ∀ k, k ≤ 9 → n ≠ k * div + div / 2) (level : Bool) :
    ∃ v, rxTick (withRx u s) level = withRx v s ∧ Receiving b div (n + 1) v := by
  obtain ⟨hs, rfl, rfl, hbits⟩ := h
  refine ⟨_, rxCycle_between (s := withRx { u with sync2 := level } s) hl hs hn, hs, rfl, rfl, fun i hi hlt => ?_⟩
  have := hn (i + 1) (by omega)
  change _ < u.t + 1 at hlt
  exact hbits i hi (by omega)

/-- Before the stop bit's sample a cycle is one of the three: a start bit's sample, a data bit's, or none. -/
theorem Receiving.tick (h : Receiving b div n u) (hl : s.link.state = .up) (hdiv : 0 < div) (hn : n < 9 * div + div / 2)
    (stop : Bool) : ∃ v, rxTick (withRx u s) (lineLevel b stop div n) = withRx v s ∧ Receiving b div (n + 1) v := by
  by_cases hsample : ∃ k, k ≤ 9 ∧ n = k * div + div / 2
  · obtain ⟨k, hk, hnk⟩ := hsample
    match k with
    | 0 =>
      rw [Nat.zero_mul, Nat.zero_add] at hnk
      rw [lineLevel_startBit b stop (hnk ▸ Nat.div_lt_self hdiv Nat.one_lt_two)]
      exact h.tick_startBit hl hdiv hnk
    | i + 1 =>
      have hi : i < 8 := by
        by_contra hge
        rw [show i = 8 by omega] at hnk
        omega
      rw [hnk, lineLevel_dataBit b stop hdiv hi, ← hnk]
      exact h.tick_dataBit hl hdiv hi hnk
  · exact h.tick_between hl (fun k hk hnk => hsample ⟨k, hk, hnk⟩) _

theorem Receiving.shift_eq (h : Receiving b div (9 * div + div / 2) u) (hdiv : 0 < div) : u.shift = b :=
  BitVec.eq_of_getLsbD_eq fun i hi => h.bits i hi (by
    have := Nat.mul_lt_mul_of_pos_right (show i + 1 < 9 by omega) hdiv
    omega)

theorem Receiving.tick_stopBit (h : Receiving b div (9 * div + div / 2) u) (hl : s.link.state = .up) (hdiv : 0 < div) :
    ∃ v, rxTick (withRx u s) true = withRx v (deliver b s) ∧ v.state = .idle := by
  have hshift := h.shift_eq hdiv
  obtain ⟨hs, ht, rfl, -⟩ := h
  refine ⟨{ u with sync2 := true, state := .idle, t := u.t + 1 },
    (rxCycle_stopBit (s := withRx { u with sync2 := true } s) hl hs hdiv ht rfl).trans ?_, rfl⟩
  rw [deliver_withRx, ← hshift]
  rfl

theorem Receiving.tick_framing (h : Receiving b div (9 * div + div / 2) u) (hl : s.link.state = .up) (hdiv : 0 < div) :
    ∃ v, rxTick (withRx u s) false =
      withRx v (report .rxFraming 0#4 { s with cnt := { s.cnt with rxFerr := s.cnt.rxFerr + 1#32 } }) ∧
      v.state = .waitHigh := by
  obtain ⟨hs, ht, rfl, -⟩ := h
  exact ⟨_, rxCycle_framing (s := withRx { u with sync2 := false } s) hl hs hdiv ht rfl, rfl⟩

end

/-- From the start edge to the stop bit's sample the receiver collects the byte's bits, and nothing else moves. -/
theorem receiving_ticks {s : State} (b : Byte) (stop : Bool) (hl : s.link.state = .up) (hs : s.urx.state = .idle)
    (hdiv : 2 ≤ s.ctl.baudDiv.toNat) {n : Nat} (h1 : 1 ≤ n)
    (hn : n ≤ 9 * s.ctl.baudDiv.toNat + s.ctl.baudDiv.toNat / 2) :
    ∃ u, (List.range n).foldl (fun x j => rxTick x (lineLevel b stop s.ctl.baudDiv.toNat j)) s = withRx u s ∧
      Receiving b s.ctl.baudDiv.toNat n u := by
  induction n, h1 using Nat.le_induction with
  | base =>
    rw [List.range_one, List.foldl_cons, List.foldl_nil, lineLevel_startBit b stop (by omega)]
    exact ⟨_, rxCycle_start (s := withRx { s.urx with sync2 := false } s) hl hs rfl,
      .of_startBit rfl rfl rfl (by omega) (Nat.le_add_left 1 _)⟩
  | succ n h1 ih =>
    obtain ⟨u, hu, hrec⟩ := ih (by omega)
    rw [List.range_succ, List.foldl_append, hu]
    exact hrec.tick hl (by omega) (by omega) stop

/-- The stop bit's sample follows the bits collected before it. -/
theorem receiving_stopBit {s : State} (b : Byte) (stop : Bool) (hl : s.link.state = .up) (hs : s.urx.state = .idle)
    (hdiv : 2 ≤ s.ctl.baudDiv.toNat) :
    ∃ u, Receiving b s.ctl.baudDiv.toNat (9 * s.ctl.baudDiv.toNat + s.ctl.baudDiv.toNat / 2) u ∧
      (List.range (9 * s.ctl.baudDiv.toNat + s.ctl.baudDiv.toNat / 2 + 1)).foldl
        (fun x j => rxTick x (lineLevel b stop s.ctl.baudDiv.toNat j)) s = rxTick (withRx u s) stop := by
  obtain ⟨u, hu, hrec⟩ := receiving_ticks b stop hl hs hdiv (by omega) le_rfl
  refine ⟨u, hrec, ?_⟩
  rw [List.range_succ, List.foldl_append, hu, List.foldl_cons, List.foldl_nil, lineLevel_stopBit b stop (by omega)]

/-- Settles O51: one cycle by the state of the receiver, and a whole byte by the bits collected at the stop bit's sample
(`receiving_stopBit`). -/
theorem receiverDeliversTheByte : Obligations.ReceiverDeliversTheByte := by
  refine ⟨fun s t b stop hl hs hdiv ht => ?_, fun _ => rxCycle_waitHigh, fun _ => rxCycle_falseStart,
    fun _ => rxCycle_startBit, fun _ => rxCycle_between, fun s k hl hs hdiv h1 h8 ht => ?_,
    fun _ hl hs hdiv ht => ⟨rxCycle_stopBit hl hs hdiv ht, rxCycle_framing hl hs hdiv ht⟩, fun _ => rxCycle_start,
    fun _ => rxCycle_idle, rxCycle_down, fun _ => step_rxPin⟩
  · obtain ⟨u, hrec, hlast⟩ := receiving_stopBit b stop hl hs hdiv
    have hlast : t = rxTick (withRx u s) stop := ht.trans hlast
    constructor <;> rintro rfl
    · obtain ⟨v, hv, hidle⟩ := hrec.tick_stopBit hl (by omega)
      rw [hlast, hv]
      exact ⟨hidle, rfl⟩
    · obtain ⟨v, hv, hwait⟩ := hrec.tick_framing hl (by omega)
      rw [hlast, hv]
      exact ⟨hwait, rfl⟩
  · obtain ⟨i, rfl⟩ := Nat.exists_eq_add_of_le' h1
    exact ⟨_, fun j hj => getLsbD_putBit _ _ _ hj, rxCycle_dataBit hl hs hdiv h8 ht⟩

end Sys2Proof.Proofs
end

section
/-! The link controller (45_uart_link.md sections 2 and 3): how the link goes down and comes up (R240 to R242), and
LINK_STEP with the velocity it sends (R245 to R249). -/

namespace Sys2Proof.Proofs

open Sys2Proof Sys2Proof.Machine Sys2Proof.Spec

/-! ## The link's phase (R240 to R242) -/

section
variable {s : State}

theorem step_link (hp : s.phase = .link) : step s = .next { linkCycle s with phase := .enc } := by
  simp [step, hp, linkPhase]

theorem attempt_fault (hf : s.pins.ioFault = true) :
    attempt s = { s with link := { s.link with downSinceMs := s.clk.timeMs } } := if_pos hf

theorem attempt_clear (hf : s.pins.ioFault = false) :
    attempt s = { s with
      link := { s.link with state := .up, sentSinceUp := false }
      urx := { s.urx with state := .waitHigh } } :=
  if_neg (by simp [hf])

theorem attemptDue_up (hl : s.link.state = .up) : s.attemptDue = false := by
  simp [State.attemptDue, hl]

theorem attemptDue_down_iff (hl : s.link.state = .down) :
    s.attemptDue = true ↔
      s.clk.msTick = true ∧ s.link.backoffMs.toNat ≤ (s.clk.timeMs - s.link.downSinceMs).toNat := by
  simp only [State.attemptDue, hl, beq_self_eq_true, Bool.true_and, Bool.and_eq_true, decide_eq_true_eq]
  rfl

/-- A backoff of 0 makes an attempt due in the cycle of the fault; it fails on that fault and stamps the same time. -/
theorem attempt_goDown (hf : s.pins.ioFault = true) : attempt (goDown s) = goDown s :=
  attempt_fault (s := goDown s) hf

theorem linkCycle_fault (hl : s.link.state = .up) (hf : s.pins.ioFault = true) : linkCycle s = goDown s := by
  have hfault : (s.linkUp && s.pins.ioFault) = true := by simp [State.linkUp, hl, hf]
  rw [linkCycle_eq, if_pos hfault, attempt_goDown hf, ite_self]

/-- Without a fault of an up link the cycle is an attempt, if one is due. -/
theorem linkCycle_noFault (h : s.link.state = .down ∨ s.pins.ioFault = false) :
    linkCycle s = if s.attemptDue then attempt s else s := by
  have hfault : (s.linkUp && s.pins.ioFault) = false := by
    rcases h with hl | hf
    · simp [State.linkUp, hl]
    · simp [hf]
  rw [linkCycle_eq, hfault]
  rfl

end

/-- Settles O52: an up link by `linkCycle_fault`, a down one by whether its attempt is due. -/
theorem linkTransitions : Obligations.LinkTransitions := by
  refine ⟨fun s hp hl hf => ?_, fun s hp hl hf => ?_, fun s hp hl hwait => ?_, fun s hp hl htick hdue => ?_⟩ <;>
    rw [step_link hp]
  · rw [linkCycle_fault hl hf, goDown, raiseError_eq_report]
    rfl
  · rw [linkCycle_noFault (.inr hf), attemptDue_up hl]
    rfl
  · have hnot : ¬ s.attemptDue = true := by
      rw [attemptDue_down_iff hl]
      rintro ⟨htick, hdue⟩
      rcases hwait with hno | hearly
      · exact absurd (htick.symm.trans hno) nofun
      · omega
    rw [linkCycle_noFault (.inl hl), if_neg hnot]
  · rw [linkCycle_noFault (.inl hl), if_pos ((attemptDue_down_iff hl).mpr ⟨htick, hdue⟩)]
    cases hf : s.pins.ioFault with
    | true => rw [attempt_fault hf]; rfl
    | false => rw [attempt_clear hf]; rfl

/-! ## What LINK_STEP sends (R245 to R247) -/

theorem sendV_eq_sentV (s : State) : s.sendV = sentV s := rfl

theorem sendW_eq_sentW (s : State) : s.sendW = sentW s := rfl

theorem heartbeatFrame_eq (s : State) : s.heartbeatFrame = heartbeatBytes s := by
  rw [State.heartbeatFrame, velPayload_eq, encodeFrame_eq_frame s _ (by simp [length_bytes32])]
  rfl

theorem triesSend_iff (s : State) : s.triesSend = true ↔ wantsSend s := by
  simp only [State.triesSend, State.linkUp, State.sendDue, sendV_eq_sentV, sendW_eq_sentW, wantsSend,
    Bool.and_eq_true, Bool.or_eq_true, Bool.not_eq_true', beq_iff_eq, decide_eq_true_eq, or_assoc]
  rfl

theorem heartbeatBytes_ne_nil (s : State) : heartbeatBytes s ≠ [] := frame_ne_nil _ _ _

/-- While the link is up a frame is queued when it fits (R206). -/
theorem enqueue_up {s : State} (hl : s.link.state = .up) {f : List Byte} (hf : f ≠ []) :
    (fits s f → s.canEnqueue f = true ∧ enqueue f s = queued f s) ∧
    (¬ fits s f → s.canEnqueue f = false ∧ enqueue f s = report .txFifoOverflow 0#4 s) := by
  have hpos := List.length_pos_iff.mpr hf
  have hfits : fits s f ↔ f.length ≤ Config.txCap - s.codec.txq.length := by simp only [fits, Config.txCap]; omega
  rw [hfits]
  rcases enqueue_cases f s with ⟨hdown, -⟩ | ⟨-, hfull, hcan, e⟩ | ⟨-, hroom, hcan, e⟩
  · exact absurd (hl.symm.trans hdown) nofun
  · exact ⟨fun h => absurd h (Nat.not_le.mpr hfull), fun _ => ⟨hcan, e.trans (raiseError_eq_report _ _ _)⟩⟩
  · exact ⟨fun _ => ⟨hcan, e⟩, fun h => absurd hroom h⟩

section
variable {s : State}

theorem heartbeat_sent (hw : wantsSend s) (hf : fits s (heartbeatBytes s)) :
    s.sends = true ∧ heartbeat s = recordSent (sentV s) (sentW s) (queued (heartbeatBytes s) s) := by
  obtain ⟨hcan, henq⟩ := (enqueue_up hw.1 (heartbeatBytes_ne_nil s)).1 hf
  have htries := (triesSend_iff s).mpr hw
  have hsends : s.sends = true := by rw [State.sends, htries, heartbeatFrame_eq, hcan]; rfl
  refine ⟨hsends, ?_⟩
  rw [heartbeat, if_pos htries, if_pos hsends, heartbeatFrame_eq, henq, sendV_eq_sentV, sendW_eq_sentW]

theorem heartbeat_full (hw : wantsSend s) (hf : ¬ fits s (heartbeatBytes s)) :
    s.sends = false ∧ heartbeat s = report .txFifoOverflow 0#4 s := by
  obtain ⟨hcan, henq⟩ := (enqueue_up hw.1 (heartbeatBytes_ne_nil s)).2 hf
  have htries := (triesSend_iff s).mpr hw
  have hsends : s.sends = false := by rw [State.sends, htries, heartbeatFrame_eq, hcan]; rfl
  refine ⟨hsends, ?_⟩
  rw [heartbeat, if_pos htries, hsends, heartbeatFrame_eq, henq]
  rfl

theorem heartbeat_notDue (hw : ¬ wantsSend s) : s.sends = false ∧ heartbeat s = s := by
  have htries : s.triesSend = false := Bool.eq_false_iff.mpr fun h => hw ((triesSend_iff s).mp h)
  refine ⟨by rw [State.sends, htries]; rfl, ?_⟩
  rw [heartbeat, htries]
  rfl

end

/-! ## The report and the pop (R247 to R249) -/

theorem reportBadInput_eq (s : State) : reportBadInput s = inputReported s := by
  rw [reportBadInput, State.cmdInBad, inputReported, raiseError_eq_report]
  cases finite s.hb.cmdInV <;> cases finite s.hb.cmdInW <;> rfl

/-- The report of non-finite inputs leaves what does not read the error report. -/
theorem inputReported_congr {α : Type} {s : State} (f : State → α) (h : ∀ e k, f (report e k s) = f s) :
    f (inputReported s) = f s := by
  unfold inputReported
  split
  · rfl
  · exact h _ _

/-- LINK_STEP's send, recorded after the report. -/
theorem recordSent_inputReported (s : State) :
    recordSent (sentV (inputReported s)) (sentW (inputReported s))
      (queued (heartbeatBytes (inputReported s)) (inputReported s)) = heartbeatSent s := by
  unfold heartbeatSent inputReported
  split <;> rfl

theorem telemetryTaken_nil {t : State} (h : t.codec.rxq = []) (sent : Nat) :
    telemetryTaken sent t = result (BitVec.ofNat 32 sent) t := by
  rw [telemetryTaken, h]

theorem telemetryTaken_cons {t : State} {f : Frame} {q : List Frame} (h : t.codec.rxq = f :: q) (sent : Nat) :
    telemetryTaken sent t = result (BitVec.ofNat 32 (sent + 2))
      { t with codec := { t.codec with rxq := q }, lat := latched t f.payload } := by
  rw [telemetryTaken, h]

theorem linkResult_eq (sent popped : Bool) :
    linkResult sent popped = BitVec.ofNat 32 (sent.toNat + 2 * popped.toNat) := by
  cases sent <;> cases popped <;> rfl

/-- The last part of LINK_STEP takes the oldest frame, if there is one, and says so in bit 1 of RESULT. -/
theorem popFrame_setResult {t : State} (hr : t.par.role = .host) (sent : Bool) :
    (popFrame t).setResult (linkResult sent t.rxAvail) = telemetryTaken sent.toNat t := by
  rw [linkResult_eq, State.rxAvail]
  rcases popFrame_cases t with ⟨hq, e⟩ | ⟨f, q, hq, e⟩ <;> rw [e, hq]
  · rw [telemetryTaken_nil hq]
    rfl
  · rw [telemetryTaken_cons hq, storeFrame_host (s := { t with codec := { t.codec with rxq := q } }) hr]
    rfl

/-- LINK_STEP reports first, and goes on from there. -/
theorem exec_linkStep {s : State} (hr : s.par.role = .host) :
    exec .linkStep s = .next ((popFrame (heartbeat (inputReported s))).setResult
      (linkResult (inputReported s).sends (inputReported s).rxAvail)) := by
  rw [inputReported_congr State.sends fun _ _ => rfl, inputReported_congr State.rxAvail fun _ _ => rfl]
  simp only [exec, execLinkStep, inRole, hr, if_true, linkStep, reportBadInput_eq]

/-- Settles O53: the report of the inputs hides nothing from the send (`inputReported_congr`), and the pop follows it
(`popFrame_setResult`). -/
theorem linkStepResult : Obligations.LinkStepResult := by
  intro s hr
  have hr' : (inputReported s).par.role = .host := (inputReported_congr (·.par.role) fun _ _ => rfl).trans hr
  have hwants : wantsSend (inputReported s) = wantsSend s := inputReported_congr wantsSend fun _ _ => rfl
  have hfits : fits (inputReported s) (heartbeatBytes (inputReported s)) = fits s (heartbeatBytes s) :=
    inputReported_congr (fun x => fits x (heartbeatBytes x)) fun _ _ => rfl
  rw [exec_linkStep hr, ← hwants, ← hfits]
  refine ⟨fun hw hf => ?_, fun hw hf => ?_, fun hw => ?_⟩ <;> refine congrArg Host.Outcome.next ?_
  · obtain ⟨hsends, hbeat⟩ := heartbeat_sent hw hf
    rw [hsends, hbeat, ← recordSent_inputReported]
    exact popFrame_setResult (t := recordSent _ _ (queued _ (inputReported s))) hr' true
  · obtain ⟨hsends, hbeat⟩ := heartbeat_full hw hf
    rw [hsends, hbeat]
    exact popFrame_setResult (t := report _ _ (inputReported s)) hr' false
  · obtain ⟨hsends, hbeat⟩ := heartbeat_notDue hw
    rw [hsends, hbeat]
    exact popFrame_setResult hr' false

/-! ## The velocity that is sent (R39, R247) -/

section
variable {x limit : F32}

theorem limits_ordered (h : legalLimit limit = true) : fgt (fneg limit) limit = false := by
  obtain ⟨hfin, hpos⟩ := (legalLimit_iff limit).mp h
  have hnan := not_isnan_of_finite hfin
  rw [fgt, flt_false_iff hnan (isnan_fneg limit ▸ hnan), exact_fneg]
  linarith

theorem finite_fneg (a : F32) : finite (fneg a) = finite a := by
  rw [Bool.eq_iff_iff, finite_iff, finite_iff, isFiniteEnc, isFiniteEnc, magBits_fneg]

theorem finite_fclamp {lo hi : F32} (hx : finite x = true) (hlo : finite lo = true) (hhi : finite hi = true) :
    finite (fclamp x lo hi) = true := by
  rcases fclamp_cases x lo hi with ⟨-, e⟩ | ⟨-, -, e⟩ | ⟨-, -, e⟩ <;> rw [e] <;> assumption

theorem safeValue_finite (h : legalLimit limit = true) : finite (safeValue x limit) = true := by
  have hlimit : finite limit = true := (finite_iff limit).mpr ((legalLimit_iff limit).mp h).1
  refine finite_fclamp ?_ ((finite_fneg limit).trans hlimit) hlimit
  split
  · assumption
  · decide

theorem safeValue_within (h : legalLimit limit = true) :
    fgt (safeValue x limit) limit = false ∧ flt (safeValue x limit) (fneg limit) = false :=
  (fclamp_between _ (limits_ordered h)).symm

/-- A finite value within its limit is sent as it is, the sign of a zero included. -/
theorem safeValue_eq_self (hx : finite x = true) (hlo : flt x (fneg limit) = false) (hhi : fgt x limit = false) :
    safeValue x limit = x := by
  simp [safeValue, fclamp, hx, hlo, hhi]

end

theorem telemetryTaken_hb (sent : Nat) (s : State) : (telemetryTaken sent s).hb = s.hb := by
  unfold telemetryTaken
  split <;> rfl

theorem telemetryTaken_notSent (s : State) : (telemetryTaken 0 s).ctl.result.getLsbD 0 = false := by
  rcases hq : s.codec.rxq with _ | ⟨f, q⟩
  · rw [telemetryTaken_nil hq]
    exact (by decide : (BitVec.ofNat 32 0).getLsbD 0 = false)
  · rw [telemetryTaken_cons hq]
    exact (by decide : (BitVec.ofNat 32 2).getLsbD 0 = false)

/-- LINK_STEP reports a send only after it recorded the two values it sent. -/
theorem linkStep_sent {s t : State} (hr : s.par.role = .host) (ht : exec .linkStep s = .next t)
    (hsent : t.ctl.result.getLsbD 0 = true) : t.hb.lastSentV = sentV s ∧ t.hb.lastSentW = sentW s := by
  obtain ⟨hsend, hfull, hidle⟩ := linkStepResult s hr
  have hnot (x : State) (h : exec .linkStep s = .next (telemetryTaken 0 x)) : False := by
    cases ht.symm.trans h
    exact absurd (hsent.symm.trans (telemetryTaken_notSent x)) nofun
  by_cases hw : wantsSend s
  · by_cases hf : fits s (heartbeatBytes s)
    · cases ht.symm.trans (hsend hw hf)
      rw [telemetryTaken_hb]
      exact ⟨rfl, rfl⟩
    · exact (hnot _ (hfull hw hf)).elim
  · exact (hnot _ (hidle hw)).elim

/-- Settles O54: what is sent is the clamp of a finite value to a legal limit (`linkStep_sent`, `safeValue_within`). -/
theorem sentVelocityIsSafe : Obligations.SentVelocityIsSafe := by
  intro s t hr hv hw ht hsent
  obtain ⟨hsv, hsw⟩ := linkStep_sent hr ht hsent
  rw [hsv, hsw]
  obtain ⟨hvhi, hvlo⟩ := safeValue_within (x := s.hb.cmdInV) hv
  obtain ⟨hwhi, hwlo⟩ := safeValue_within (x := s.hb.cmdInW) hw
  exact ⟨safeValue_finite hv, hvhi, hvlo, safeValue_finite hw, hwhi, hwlo, safeValue_eq_self, safeValue_eq_self⟩

end Sys2Proof.Proofs
end

section
/-! Errors and the interrupt (R260 to R266): what a report leaves in ERR_CODE and STATUS, that no step halts the block, and
when `irq` is high. -/

namespace Sys2Proof.Proofs

open Sys2Proof Sys2Proof.Machine Sys2Proof.Spec

/-! ## The error report (R261, R262) -/

/-- The table of R261 gives the condition's STATUS bit. -/
theorem errRow_statusBit (e : ErrKind) : (errRow e).2 = e.statusBit := by
  cases e with
  | numFault c => cases c <;> rfl
  | _ => rfl

/-- No condition is reported in a live bit of STATUS (R26, R261). -/
theorem statusBit_not_live (e : ErrKind) : ¬ (e.statusBit = 3 ∨ e.statusBit = 11 ∨ e.statusBit = 19) := by
  cases e with
  | numFault c => cases c <;> decide
  | _ => decide

/-- ERR_CODE reads the code in its low byte and the channel above it (R28). -/
theorem readReg_errCode_report (e : ErrKind) (ch : BitVec 4) (s : State) :
    readReg .errCode (report e ch s) = (errRow e).1.setWidth 32 ||| (ch.setWidth 32 <<< 8) := by
  simp only [readReg, report, place, BitVec.shiftLeft_zero]

/-- A reported condition's STATUS bit reads 1 (R262). -/
theorem readReg_status_raiseError (e : ErrKind) (ch : BitVec 4) (s : State) :
    (readReg .status (raiseError e ch s)).getLsbD e.statusBit = true := by
  rw [getLsbD_readReg_status, getLsbD_status _ e.statusBit_lt, if_neg (statusBit_not_live e)]
  exact raiseError_sticky_self e ch s

/-- Settles O13: the report of R262 (`raiseError_eq_report`) and what ERR_CODE and STATUS read after it. -/
theorem raiseErrorEffect : Obligations.RaiseErrorEffect := by
  intro e ch s
  refine ⟨raiseError_eq_report e ch s, ?_, ?_⟩
  · rw [raiseError_eq_report]
    exact readReg_errCode_report e ch s
  · rw [errRow_statusBit]
    exact readReg_status_raiseError e ch s

/-! ## Nothing halts the block (R260) -/

/-- Settles O14: of the cases of `step_cases` all name the next state but two, a whole frame and a decoded command word,
which run an instruction, and every instruction answers a next state (`exec_next`). -/
theorem noStepStops : Obligations.NoStepStops := by
  intro s
  rcases step_cases s with ⟨-, h⟩ | ⟨-, h⟩ | ⟨-, h⟩ | ⟨-, h⟩ | ⟨-, -, h⟩ | ⟨-, _, _, -, ⟨-, h⟩ | ⟨_, _, -, hframe⟩⟩ |
    ⟨-, h⟩ | ⟨-, h⟩ |
    ⟨-, ⟨-, h⟩ | ⟨_, -, h⟩ | ⟨_, _, -, h⟩ | ⟨_, -, ⟨_, -, hcommand⟩ | ⟨_, -, h⟩⟩⟩ | ⟨-, h⟩
  any_goals exact ⟨_, h⟩
  · exact hframe ▸ exec_next _ _
  · exact hcommand ▸ exec_next _ _

/-! ## The interrupt (R266) -/

/-- A word is not 0 when one of its bits is set. -/
theorem ne_zero_iff_getLsbD {w : Nat} (x : BitVec w) : x ≠ 0#w ↔ ∃ i, x.getLsbD i = true := by
  constructor
  · contrapose!
    intro h
    refine BitVec.eq_of_getLsbD_eq fun i _ => ?_
    rw [BitVec.getLsbD_zero]
    exact Bool.eq_false_iff.mpr (h i)
  · rintro ⟨i, hi⟩ rfl
    simp at hi

theorem getLsbD_readReg_irqEn (s : State) (i : Nat) : (readReg .irqEn s).getLsbD i = s.ctl.irqEn.getLsbD i := by
  simp only [readReg, BitVec.getLsbD_setWidth, Bool.and_eq_right_iff_imp, decide_eq_true_eq]
  exact fun h => (BitVec.lt_of_getLsbD h).trans (by decide)

/-- Settles O15, bit by bit: `irq` is a bit of STATUS and IRQ_EN at once, and both read as they stand. -/
theorem irqIsEnabledStatus : Obligations.IrqIsEnabledStatus := fun s => calc
  s.irq = true ↔ s.status &&& s.ctl.irqEn ≠ 0#20 := bne_iff_ne
  _ ↔ ∃ i, (s.status &&& s.ctl.irqEn).getLsbD i = true := ne_zero_iff_getLsbD _
  _ ↔ ∃ i, (readReg .status s).getLsbD i = true ∧ (readReg .irqEn s).getLsbD i = true := by
    simp only [BitVec.getLsbD_and, Bool.and_eq_true, getLsbD_readReg_status, getLsbD_readReg_irqEn]

end Sys2Proof.Proofs
end
